-- ==== Sys2Proof/Word.lean ====
section
/-! DEFINITION. The word types of VSG: a data byte, a 16-bit address, a 3-bit fine scroll value, and the
words of the three operation formats (spec/30_encoding.md R91, R92, R93, R94). -/

namespace Sys2Proof

/-- One byte of memory or of host data (spec/20_memory.md R60). -/
abbrev Byte := BitVec 8

/-- An address in one of the 16-bit spaces (spec/10_state.md R41), and every 16-bit register. -/
abbrev Addr := BitVec 16

/-- A fine scroll value, 0 to 7 (spec/10_state.md R35, R37). -/
abbrev Scroll := BitVec 3

/-- A word of format PIN: the `rst` pin (spec/30_encoding.md R94). -/
abbrev PinWord := BitVec 1

/-- A word of format SEQ: the sequencer selector (spec/30_encoding.md R93). -/
abbrev SeqWord := BitVec 3

/-- A word of format HB: the host bus word (spec/30_encoding.md R92). -/
abbrev HbWord := BitVec 28

end Sys2Proof
end

