-- ==== Sys2Proof/Config.lean ====
section
/-! DEFINITION. The configuration record `Cfg` of spec/00_scope.md R7 to R9, the free values of the model, and
the one configuration that the reset state of the model is built with. -/

namespace Sys2Proof

/-- The kernel variant, fixed per build (spec/00_scope.md R9). -/
inductive Variant where
  | k6 | k8 | k8r | k8rs
  deriving DecidableEq, Repr

/-- The byte order of a tile store (spec/00_scope.md R9, spec/42_pixel_kernels.md R165). -/
inductive TileLayout where
  | tileMajor | rowMajor
  deriving DecidableEq, Repr

/-- The television standard: a label reported in CONFIG (spec/00_scope.md R9). -/
inductive Standard where
  | ntsc | pal
  deriving DecidableEq, Repr

/-- The configuration record: geometry fields (spec/00_scope.md R8) and option fields (R9). `CPP` is a number
here, W3 restricts it to 2 or 4. The contents of the ROM tile store are the list of its bytes in address order;
a byte past the end of the list is 0x00 (log 8). -/
structure Cfg where
  hCycles : Nat
  hsyncW : Nat
  vsyncW : Nat
  linesPerFrame : Nat
  vsyncEnd : Nat
  activeStart : Nat
  activeEnd : Nat
  hStart : Nat
  tileH : Nat
  visCols : Nat
  bufCols : Nat
  bufRows : Nat
  romTiles : Nat
  ramTiles : Nat
  romBytes : Nat
  ramBytes : Nat
  variant : Variant
  cpp : Nat
  msbFirst : Bool
  tileLayout : TileLayout
  vscrollEn : Bool
  trimEn : Bool
  standard : Standard
  rom : List Byte
  deriving DecidableEq, Repr

namespace Config

/-- FREE VALUE (log 6): what a SCREEN byte that the host has never written holds, one arbitrary byte for each
address, fixed until written (spec/10_state.md R42, spec/93_implementation_defined.md U5). -/
opaque screenPowerUp : Nat → Byte

/-- FREE VALUE (log 6): the same for RAMT (spec/10_state.md R42). -/
opaque ramtPowerUp : Nat → Byte

/-- FREE VALUE (log 7): what the host's n-th read of an unpopulated address returns
(spec/20_memory.md R73, spec/93_implementation_defined.md U4). -/
opaque hostUnpopulated : Nat → Byte

/-- FREE VALUE (log 7): what the renderer's n-th read of an unpopulated address returns
(spec/20_memory.md R73, spec/93_implementation_defined.md U4). -/
opaque rendererUnpopulated : Nat → Byte

/-- The configuration TOY of spec/95_test_vectors.md section 2 with the image ROM-A and the variant `v`. -/
def toy (v : Variant) : Cfg where
  hCycles := 160
  hsyncW := 8
  vsyncW := 140
  linesPerFrame := 12
  vsyncEnd := 3
  activeStart := 5
  activeEnd := 9
  hStart := 40
  tileH := 2
  visCols := 2
  bufCols := 3
  bufRows := 3
  romTiles := 4
  ramTiles := 2
  romBytes := 8
  ramBytes := 32
  variant := v
  cpp := 2
  msbFirst := true
  tileLayout := .tileMajor
  vscrollEn := false
  trimEn := false
  standard := .ntsc
  rom := [0x00, 0x00, 0xF1, 0x83, 0xA4, 0x3D, 0x0F, 0x70]

/-- DESIGN CHOICE (log 2), unsafe: the configuration of the instance whose reset state is `State.reset`. Every
other statement of the model is over every `Cfg`. -/
def build : Cfg := toy .k8rs

end Config

end Sys2Proof
end

