-- ==== Sys2Proof/Machine/Geometry.lean ====
section
/-! DEFINITION. The derived constants of a configuration (spec/00_scope.md R10), the eight well-formedness
conditions W1 to W8 (R11), and the trim contract (spec/43_display_config_ops.md R217). -/

namespace Sys2Proof

/-- The code of a variant in CONFIG[1:0] and in the SEQ selector (spec/10_state.md R40). -/
def Variant.code : Variant → BitVec 2
  | .k6 => 0
  | .k8 => 1
  | .k8r => 2
  | .k8rs => 3

/-- The variant of a code: the inverse of `Variant.code`. -/
def Variant.ofCode (b : BitVec 2) : Variant :=
  if b = 0 then .k6 else if b = 1 then .k8 else if b = 2 then .k8r else .k8rs

namespace Cfg

/-- `PPT`, pixels per tile byte (spec/00_scope.md R10). -/
def ppt (c : Cfg) : Nat := if c.variant = .k6 then 6 else 8

/-- `HAS_RAM` (spec/00_scope.md R10). -/
def hasRam (c : Cfg) : Bool := c.variant = .k8r || c.variant = .k8rs

/-- `HAS_HSCROLL` (spec/00_scope.md R10). -/
def hasHScroll (c : Cfg) : Bool := c.variant = .k8rs

/-- `FETCH_COLS` (spec/00_scope.md R10). -/
def fetchCols (c : Cfg) : Nat := if c.variant = .k8rs then c.visCols + 1 else c.visCols

/-- `SLOTS`, pixel slots of a rendered line (spec/00_scope.md R10). -/
def slots (c : Cfg) : Nat := c.fetchCols * c.ppt

/-- The cycles of one column, `PPT × CPP` (spec/42_pixel_kernels.md R166). -/
def colCycles (c : Cfg) : Nat := c.ppt * c.cpp

/-- `N_ACTIVE`, rendered lines per frame (spec/00_scope.md R10). -/
def nActive (c : Cfg) : Nat := c.activeEnd - c.activeStart

/-- `SCREEN_BYTES` (spec/00_scope.md R10). -/
def screenBytes (c : Cfg) : Nat := c.bufCols * c.bufRows

/-- `7 × CPP × HAS_HSCROLL`, how many cycles early a scrolled line can start (spec/00_scope.md R11 W4). -/
def scrollLead (c : Cfg) : Nat := if c.hasHScroll then 7 * c.cpp else 0

/-- `VMAX = 7 × VSCROLL_EN` (spec/00_scope.md R11 W7). -/
def vMax (c : Cfg) : Nat := if c.vscrollEn then 7 else 0

/-- `MAXROW`, the last buffer row a frame can show (spec/00_scope.md R11 W7). -/
def maxRow (c : Cfg) : Nat := (c.vMax + c.nActive - 1) / c.tileH

/-- W1 of spec/00_scope.md R11. -/
def w1 (c : Cfg) : Bool :=
  decide (0 < c.hsyncW ∧ c.hsyncW < c.vsyncW ∧ c.vsyncW < c.hCycles ∧ c.hCycles ≤ 65536)

/-- W2 of spec/00_scope.md R11. -/
def w2 (c : Cfg) : Bool :=
  decide (2 ≤ c.vsyncEnd ∧ c.vsyncEnd < c.activeStart ∧ c.activeStart < c.activeEnd ∧
    c.activeEnd < c.linesPerFrame ∧ c.linesPerFrame ≤ 65535)

/-- W3 of spec/00_scope.md R11. -/
def w3 (c : Cfg) : Bool :=
  decide ((c.cpp = 2 ∨ c.cpp = 4) ∧ 1 ≤ c.tileH ∧ c.tileH ≤ 256 ∧ 1 ≤ c.visCols ∧ 1 ≤ c.bufCols ∧
    1 ≤ c.bufRows ∧ c.fetchCols ≤ 256)

/-- W4 of spec/00_scope.md R11: `X0_MIN ≥ HSYNC_W` and `X0_MIN ≥ 2`, without a subtraction. -/
def w4 (c : Cfg) : Bool :=
  decide (c.hsyncW + c.scrollLead ≤ c.hStart ∧ 2 + c.scrollLead ≤ c.hStart)

/-- W5 of spec/00_scope.md R11, without a subtraction. -/
def w5 (c : Cfg) : Bool := decide (c.hStart + c.slots * c.cpp + 2 ≤ c.hCycles)

/-- W6 of spec/00_scope.md R11. -/
def w6 (c : Cfg) : Bool := !c.vscrollEn || decide (8 ≤ c.tileH)

/-- W7 of spec/00_scope.md R11. -/
def w7 (c : Cfg) : Bool :=
  decide (c.maxRow * c.bufCols + c.fetchCols ≤ c.screenBytes ∧ c.screenBytes ≤ 65536)

/-- W8 of spec/00_scope.md R11. -/
def w8 (c : Cfg) : Bool :=
  (if c.hasRam then decide (1 ≤ c.romTiles ∧ c.romTiles ≤ 128 ∧ 1 ≤ c.ramTiles ∧ c.ramTiles ≤ 128)
    else decide (1 ≤ c.romTiles ∧ c.romTiles ≤ 256)) &&
  decide (c.romBytes ≤ 65536 ∧ c.ramBytes ≤ 65536)

/-- The start cycle of a line from its two latches, in unbounded integers: `H_START + trim - scroll × CPP`
(spec/42_pixel_kernels.md R162, spec/00_scope.md R16 (g)). -/
def lineStart (c : Cfg) (trim : Byte) (scroll : Scroll) : Int :=
  c.hStart + trim.toInt - scroll.toNat * c.cpp

/-- The end cycle of a line: `x0 + SLOTS × CPP` (spec/42_pixel_kernels.md R162). -/
def lineEnd (c : Cfg) (trim : Byte) (scroll : Scroll) : Int :=
  c.lineStart trim scroll + c.slots * c.cpp

/-- `AS_eff = ACTIVE_START + sext(v_trim_l)`, in unbounded integers (spec/41_line_state_machine.md R149). -/
def activeStartEff (c : Cfg) (vTrim : Byte) : Int := c.activeStart + vTrim.toInt

/-- `AE_eff = ACTIVE_END + sext(v_trim_l)` (spec/41_line_state_machine.md R149). -/
def activeEndEff (c : Cfg) (vTrim : Byte) : Int := c.activeEnd + vTrim.toInt

/-- The horizontal half of the trim contract (spec/43_display_config_ops.md R217): with `TRIM_EN` = 0 it asks
nothing. -/
def hTrimOk (c : Cfg) (hTrim : Byte) : Bool :=
  !c.trimEn ||
    decide ((c.hsyncW : Int) ≤ c.hStart + hTrim.toInt - c.scrollLead ∧
      (2 : Int) ≤ c.hStart + hTrim.toInt - c.scrollLead ∧
      c.hStart + hTrim.toInt + c.slots * c.cpp + 2 ≤ c.hCycles)

/-- The vertical half of the trim contract (spec/43_display_config_ops.md R217). -/
def vTrimOk (c : Cfg) (vTrim : Byte) : Bool :=
  !c.trimEn ||
    decide ((c.vsyncEnd : Int) < c.activeStartEff vTrim ∧ c.activeEndEff vTrim < c.linesPerFrame)

/-- A line with these two latches starts and ends inside its period: `max(HSYNC_W, 2) ≤ x0` and
`x_end ≤ H_CYCLES - 2` (spec/00_scope.md R16 (g), spec/60_exceptions.md R251 F-TIME). -/
def lineFits (c : Cfg) (trim : Byte) (scroll : Scroll) : Bool :=
  decide ((c.hsyncW : Int) ≤ c.lineStart trim scroll ∧ (2 : Int) ≤ c.lineStart trim scroll ∧
    c.lineEnd trim scroll + 2 ≤ c.hCycles)

end Cfg

end Sys2Proof
end

