-- ==== Sys2Proof/Syntax.lean ====
section
/-! DEFINITION. The 40 operations of VSG, one constructor per row of spec/opcode_table.json
(spec/30_encoding.md R104), and the word of an operation in each of the three formats (R91). -/

namespace Sys2Proof

/-- An operation. `d` is the write data `h_wdata`, `a` the address `h_addr` (spec/30_encoding.md R99). Bits of a
word that the spec says are ignored are no operands (log 15). -/
inductive Instr where
  -- format PIN
  | reset
  -- format SEQ
  | lineInactive
  | lineK6
  | lineK8
  | lineK8r
  | lineK8rs
  -- format HB: idle
  | nop
  -- format HB: register writes
  | wrFontLo (d : Byte)
  | wrFontHi (d : Byte)
  | wrRamtLo (d : Byte)
  | wrRamtHi (d : Byte)
  | wrHScroll (d : Byte)
  | wrHMask (d : Byte)
  | wrVScroll (d : Byte)
  | wrHTrim (d : Byte)
  | wrVTrim (d : Byte)
  | wrFrameLo (d : Byte)
  | wrFrameHi (d : Byte)
  | wrConfig (d : Byte)
  | wrRsvd (a : Addr) (d : Byte)
  -- format HB: register reads
  | rdFontLo
  | rdFontHi
  | rdRamtLo
  | rdRamtHi
  | rdHScroll
  | rdHMask
  | rdVScroll
  | rdHTrim
  | rdVTrim
  | rdFrameLo
  | rdFrameHi
  | rdConfig
  | rdRsvd (a : Addr)
  -- format HB: memory
  | wrs (a : Addr) (d : Byte)
  | rds (a : Addr)
  | wrt (a : Addr) (d : Byte)
  | rdt (a : Addr)
  -- format HB: reserved forms
  | wrSel3
  | rdSel3
  | both
  deriving DecidableEq, Repr

/-- A word in one of the three formats, which are told apart by where the operation comes from
(spec/30_encoding.md R91). -/
inductive OpWord where
  | pin (w : PinWord)
  | seq (w : SeqWord)
  | hb (w : HbWord)
  deriving DecidableEq, Repr

end Sys2Proof
end

