-- ==== Sys2Proof/WellFormed.lean ====
section
/-! DEFINITION. Which configurations and which operations are well formed (spec/00_scope.md R11,
spec/43_display_config_ops.md R214, R230). -/

namespace Sys2Proof

/-- A configuration is well formed when all of W1 to W8 hold (spec/00_scope.md R11). -/
def Cfg.wellFormed (c : Cfg) : Bool :=
  c.w1 && c.w2 && c.w3 && c.w4 && c.w5 && c.w6 && c.w7 && c.w8

/-- The register address `a` of space 0 names no register: it is not in 0x0000..0x000B
(spec/30_encoding.md R92, R105 (a)). -/
def reservedRegister (a : Addr) : Bool := decide (0xB < a.toNat)

/-- The catch-all forms WR.RSVD and RD.RSVD stand only for reserved register addresses; every other operation is
well formed with every operand (spec/43_display_config_ops.md R214, R230). -/
def Instr.wellFormed : Instr → Bool
  | .wrRsvd a _ => reservedRegister a
  | .rdRsvd a => reservedRegister a
  | .reset => true
  | .lineInactive => true
  | .lineK6 => true
  | .lineK8 => true
  | .lineK8r => true
  | .lineK8rs => true
  | .nop => true
  | .wrFontLo _ => true
  | .wrFontHi _ => true
  | .wrRamtLo _ => true
  | .wrRamtHi _ => true
  | .wrHScroll _ => true
  | .wrHMask _ => true
  | .wrVScroll _ => true
  | .wrHTrim _ => true
  | .wrVTrim _ => true
  | .wrFrameLo _ => true
  | .wrFrameHi _ => true
  | .wrConfig _ => true
  | .rdFontLo => true
  | .rdFontHi => true
  | .rdRamtLo => true
  | .rdRamtHi => true
  | .rdHScroll => true
  | .rdHMask => true
  | .rdVScroll => true
  | .rdHTrim => true
  | .rdVTrim => true
  | .rdFrameLo => true
  | .rdFrameHi => true
  | .rdConfig => true
  | .wrs _ _ => true
  | .rds _ => true
  | .wrt _ _ => true
  | .rdt _ => true
  | .wrSel3 => true
  | .rdSel3 => true
  | .both => true

end Sys2Proof
end

