-- ==== Sys2Proof/Decode.lean ====
section
/-! DEFINITION. The decoder of the three formats (spec/30_encoding.md R91 to R94), the encoder, the ordered table
of format HB as spec/opcode_table.json writes it (R104), and the host's reading of a table row as a word. -/

namespace Sys2Proof

/-! ## Fields of the host bus word -/

/-- The two strobes `{h_re, h_we}`, bits 27:26 (spec/30_encoding.md R92). -/
def strobesOf (w : HbWord) : BitVec 2 := w.extractLsb' 26 2

/-- `h_sel`, bits 25:24 (spec/30_encoding.md R92). -/
def selOf (w : HbWord) : BitVec 2 := w.extractLsb' 24 2

/-- `h_addr`, bits 23:8 (spec/30_encoding.md R92). -/
def addrOf (w : HbWord) : Addr := w.extractLsb' 8 16

/-- `h_wdata`, bits 7:0 (spec/30_encoding.md R92). -/
def dataOf (w : HbWord) : Byte := w.extractLsb' 0 8

/-- The host bus word of its five fields, `h_re` in the highest bit (spec/30_encoding.md R92). -/
def hbWord (re we : BitVec 1) (sel : BitVec 2) (a : Addr) (d : Byte) : HbWord :=
  re ++ we ++ sel ++ a ++ d

/-! ## The decoder -/

/-- A write to space 0: `h_addr` names a register, or is reserved (spec/30_encoding.md R92). -/
def decodeRegWrite (a : Addr) (d : Byte) : Instr :=
  match a.toNat with
  | 0 => .wrFontLo d
  | 1 => .wrFontHi d
  | 2 => .wrRamtLo d
  | 3 => .wrRamtHi d
  | 4 => .wrHScroll d
  | 5 => .wrHMask d
  | 6 => .wrVScroll d
  | 7 => .wrHTrim d
  | 8 => .wrVTrim d
  | 9 => .wrFrameLo d
  | 10 => .wrFrameHi d
  | 11 => .wrConfig d
  | _ => .wrRsvd a d

/-- A read of space 0 (spec/30_encoding.md R92). -/
def decodeRegRead (a : Addr) : Instr :=
  match a.toNat with
  | 0 => .rdFontLo
  | 1 => .rdFontHi
  | 2 => .rdRamtLo
  | 3 => .rdRamtHi
  | 4 => .rdHScroll
  | 5 => .rdHMask
  | 6 => .rdVScroll
  | 7 => .rdHTrim
  | 8 => .rdVTrim
  | 9 => .rdFrameLo
  | 10 => .rdFrameHi
  | 11 => .rdConfig
  | _ => .rdRsvd a

/-- A write, by its space (spec/30_encoding.md R90, R92). -/
def decodeWrite (sel : BitVec 2) (a : Addr) (d : Byte) : Instr :=
  if sel = 0 then decodeRegWrite a d
  else if sel = 1 then .wrs a d
  else if sel = 2 then .wrt a d
  else .wrSel3

/-- A read, by its space (spec/30_encoding.md R90, R92). -/
def decodeRead (sel : BitVec 2) (a : Addr) : Instr :=
  if sel = 0 then decodeRegRead a
  else if sel = 1 then .rds a
  else if sel = 2 then .rdt a
  else .rdSel3

/-- Format HB: `{h_re, h_we}` = 00 is NOP, 10 a read, 01 a write, 11 BOTH (spec/30_encoding.md R92). Every word
has a meaning (R105). -/
def decodeHb (w : HbWord) : Instr :=
  if strobesOf w = 0 then .nop
  else if strobesOf w = 1 then decodeWrite (selOf w) (addrOf w) (dataOf w)
  else if strobesOf w = 2 then decodeRead (selOf w) (addrOf w)
  else .both

/-- Format SEQ: bit 2 is `handler`, bits 1:0 the variant's code; every value has a meaning
(spec/30_encoding.md R93, R105). -/
def decodeSeq (w : SeqWord) : Instr :=
  if w.extractLsb' 2 1 = 0 then .lineInactive
  else if w.extractLsb' 0 2 = 0 then .lineK6
  else if w.extractLsb' 0 2 = 1 then .lineK8
  else if w.extractLsb' 0 2 = 2 then .lineK8r
  else .lineK8rs

/-- Format PIN: 1 selects RESET, 0 selects nothing (spec/30_encoding.md R94). -/
def decodePin (w : PinWord) : Option Instr := if w = 1 then some .reset else none

/-- Why a word is no operation. -/
inductive DecodeError where
  /-- The `rst` pin is 0: it selects nothing (spec/30_encoding.md R94). Safe. -/
  | pinSelectsNothing
  deriving DecidableEq, Repr

/-- The operation a word selects, or the reason why it selects none (spec/30_encoding.md R91). -/
def decode : OpWord → Except DecodeError Instr
  | .pin w => match decodePin w with
    | some i => .ok i
    | none => .error .pinSelectsNothing
  | .seq w => .ok (decodeSeq w)
  | .hb w => .ok (decodeHb w)

/-! ## The encoder -/

/-- The word of an operation, with 0 in every bit the spec says is ignored (spec/30_encoding.md R92 to R94). -/
def encode : Instr → OpWord
  | .reset => .pin 1
  | .lineInactive => .seq 0b000
  | .lineK6 => .seq 0b100
  | .lineK8 => .seq 0b101
  | .lineK8r => .seq 0b110
  | .lineK8rs => .seq 0b111
  | .nop => .hb (hbWord 0 0 0 0 0)
  | .wrFontLo d => .hb (hbWord 0 1 0 0 d)
  | .wrFontHi d => .hb (hbWord 0 1 0 1 d)
  | .wrRamtLo d => .hb (hbWord 0 1 0 2 d)
  | .wrRamtHi d => .hb (hbWord 0 1 0 3 d)
  | .wrHScroll d => .hb (hbWord 0 1 0 4 d)
  | .wrHMask d => .hb (hbWord 0 1 0 5 d)
  | .wrVScroll d => .hb (hbWord 0 1 0 6 d)
  | .wrHTrim d => .hb (hbWord 0 1 0 7 d)
  | .wrVTrim d => .hb (hbWord 0 1 0 8 d)
  | .wrFrameLo d => .hb (hbWord 0 1 0 9 d)
  | .wrFrameHi d => .hb (hbWord 0 1 0 10 d)
  | .wrConfig d => .hb (hbWord 0 1 0 11 d)
  | .wrRsvd a d => .hb (hbWord 0 1 0 a d)
  | .rdFontLo => .hb (hbWord 1 0 0 0 0)
  | .rdFontHi => .hb (hbWord 1 0 0 1 0)
  | .rdRamtLo => .hb (hbWord 1 0 0 2 0)
  | .rdRamtHi => .hb (hbWord 1 0 0 3 0)
  | .rdHScroll => .hb (hbWord 1 0 0 4 0)
  | .rdHMask => .hb (hbWord 1 0 0 5 0)
  | .rdVScroll => .hb (hbWord 1 0 0 6 0)
  | .rdHTrim => .hb (hbWord 1 0 0 7 0)
  | .rdVTrim => .hb (hbWord 1 0 0 8 0)
  | .rdFrameLo => .hb (hbWord 1 0 0 9 0)
  | .rdFrameHi => .hb (hbWord 1 0 0 10 0)
  | .rdConfig => .hb (hbWord 1 0 0 11 0)
  | .rdRsvd a => .hb (hbWord 1 0 0 a 0)
  | .wrs a d => .hb (hbWord 0 1 1 a d)
  | .rds a => .hb (hbWord 1 0 1 a 0)
  | .wrt a d => .hb (hbWord 0 1 2 a d)
  | .rdt a => .hb (hbWord 1 0 2 a 0)
  | .wrSel3 => .hb (hbWord 0 1 3 0 0)
  | .rdSel3 => .hb (hbWord 1 0 3 0 0)
  | .both => .hb (hbWord 1 1 0 0 0)

/-! ## The ordered table of format HB -/

/-- One row of the table: a word `w` selects it when `w & mask = match` (spec/30_encoding.md R104). -/
structure HbRow where
  pattern : HbWord
  mask : HbWord
  build : HbWord → Instr

/-- The NOP row. -/
def hbRowsIdle : List HbRow :=
  [⟨0x0000000, 0xC000000, fun _ => .nop⟩]

/-- The register write rows, the catch-all last. -/
def hbRowsWrite : List HbRow :=
  [⟨0x4000000, 0xFFFFF00, fun w => .wrFontLo (dataOf w)⟩,
   ⟨0x4000100, 0xFFFFF00, fun w => .wrFontHi (dataOf w)⟩,
   ⟨0x4000200, 0xFFFFF00, fun w => .wrRamtLo (dataOf w)⟩,
   ⟨0x4000300, 0xFFFFF00, fun w => .wrRamtHi (dataOf w)⟩,
   ⟨0x4000400, 0xFFFFF00, fun w => .wrHScroll (dataOf w)⟩,
   ⟨0x4000500, 0xFFFFF00, fun w => .wrHMask (dataOf w)⟩,
   ⟨0x4000600, 0xFFFFF00, fun w => .wrVScroll (dataOf w)⟩,
   ⟨0x4000700, 0xFFFFF00, fun w => .wrHTrim (dataOf w)⟩,
   ⟨0x4000800, 0xFFFFF00, fun w => .wrVTrim (dataOf w)⟩,
   ⟨0x4000900, 0xFFFFF00, fun w => .wrFrameLo (dataOf w)⟩,
   ⟨0x4000A00, 0xFFFFF00, fun w => .wrFrameHi (dataOf w)⟩,
   ⟨0x4000B00, 0xFFFFF00, fun w => .wrConfig (dataOf w)⟩,
   ⟨0x4000000, 0xF000000, fun w => .wrRsvd (addrOf w) (dataOf w)⟩]

/-- The register read rows, the catch-all last. -/
def hbRowsRead : List HbRow :=
  [⟨0x8000000, 0xFFFFF00, fun _ => .rdFontLo⟩,
   ⟨0x8000100, 0xFFFFF00, fun _ => .rdFontHi⟩,
   ⟨0x8000200, 0xFFFFF00, fun _ => .rdRamtLo⟩,
   ⟨0x8000300, 0xFFFFF00, fun _ => .rdRamtHi⟩,
   ⟨0x8000400, 0xFFFFF00, fun _ => .rdHScroll⟩,
   ⟨0x8000500, 0xFFFFF00, fun _ => .rdHMask⟩,
   ⟨0x8000600, 0xFFFFF00, fun _ => .rdVScroll⟩,
   ⟨0x8000700, 0xFFFFF00, fun _ => .rdHTrim⟩,
   ⟨0x8000800, 0xFFFFF00, fun _ => .rdVTrim⟩,
   ⟨0x8000900, 0xFFFFF00, fun _ => .rdFrameLo⟩,
   ⟨0x8000A00, 0xFFFFF00, fun _ => .rdFrameHi⟩,
   ⟨0x8000B00, 0xFFFFF00, fun _ => .rdConfig⟩,
   ⟨0x8000000, 0xF000000, fun w => .rdRsvd (addrOf w)⟩]

/-- The memory rows and the reserved forms. -/
def hbRowsOther : List HbRow :=
  [⟨0x5000000, 0xF000000, fun w => .wrs (addrOf w) (dataOf w)⟩,
   ⟨0x9000000, 0xF000000, fun w => .rds (addrOf w)⟩,
   ⟨0x6000000, 0xF000000, fun w => .wrt (addrOf w) (dataOf w)⟩,
   ⟨0xA000000, 0xF000000, fun w => .rdt (addrOf w)⟩,
   ⟨0x7000000, 0xF000000, fun _ => .wrSel3⟩,
   ⟨0xB000000, 0xF000000, fun _ => .rdSel3⟩,
   ⟨0xC000000, 0xC000000, fun _ => .both⟩]

/-- The rows of format HB in the order of spec/opcode_table.json. -/
def hbTable : List HbRow := hbRowsIdle ++ hbRowsWrite ++ hbRowsRead ++ hbRowsOther

/-- The operation of the first row that `w` selects (spec/30_encoding.md R104). -/
def firstRow (rows : List HbRow) (w : HbWord) : Option Instr :=
  match rows with
  | [] => none
  | r :: rest => if w &&& r.mask = r.pattern then some (r.build w) else firstRow rest w

/-! ## The host's reading of a table row -/

/-- The word that `nbits` bits with the value `w` stand for. Formats PIN and SEQ share the one-byte length and are
told apart in the hardware by where they come from, so in a byte the value 1 is read as the `rst` pin and every
other value below 8 as a SEQ selector: DESIGN CHOICE (log 13). -/
def tableOpWord (nbits w : Nat) : Option OpWord :=
  if nbits ≤ 1 then (if w < 2 then some (.pin (BitVec.ofNat 1 w)) else none)
  else if nbits ≤ 3 then (if w < 8 then some (.seq (BitVec.ofNat 3 w)) else none)
  else if nbits ≤ 8 then
    (if w = 1 then some (.pin 1) else if w < 8 then some (.seq (BitVec.ofNat 3 w)) else none)
  else (if w < 2 ^ 28 then some (.hb (BitVec.ofNat 28 w)) else none)

/-- The operation the decoder reads from a row of spec/opcode_table.json with the bits `w`. -/
def decodeTableWord (nbits w : Nat) : Option Instr :=
  match tableOpWord nbits w with
  | none => none
  | some o => match decode o with
    | .ok i => some i
    | .error _ => none

end Sys2Proof
end

