-- ==== Sys2Proof/Machine/State.lean ====
section
/-! DEFINITION. The state of VSG as plain data (spec/10_state.md R20), the reasons a step can stop, and the machine
right after reset (R48). -/

namespace Sys2Proof.Machine

/-- `handler`: which routine the next tick runs (spec/10_state.md R24). -/
inductive Handler where
  | inactive | kernel
  deriving DecidableEq, Repr

/-- A pulse width: H lasts `HSYNC_W` cycles, V `VSYNC_W` (spec/10_state.md R30). -/
inductive SyncWidth where
  | h | v
  deriving DecidableEq, Repr

/-- The five regions (spec/10_state.md R25). -/
inductive Region where
  | preSync | sync | postSync | active | postActive
  deriving DecidableEq, Repr

/-- The three byte spaces (spec/10_state.md R41). -/
inductive Space where
  | screen | rom | ramt
  deriving DecidableEq, Repr

/-- A writable memory: the bytes written so far, as (address, byte) pairs with strictly rising addresses. A byte
that is not listed has never been written: it holds the free value of its address (log 6). -/
abbrev Memory := List Host.Cell

/-- The host input pins sampled in one cycle: `rst` and the HB word (spec/30_encoding.md R90, R91). -/
structure Input where
  rst : PinWord
  hb : HbWord
  deriving DecidableEq, Repr

/-- Why the machine stops with a fault: never. "VSG raises no synchronous exception" (spec/60_exceptions.md R250),
so the type has no constructor (log 21). -/
inductive Fault where
  deriving DecidableEq, Repr

/-- Why a step has no meaning. Each of the four reasons below `notModelled` is a `refuse` of the spec. -/
inductive Refusal where
  /-- An operation the model gives no meaning to; no arm of `exec` raises it. Safe. -/
  | notModelled (mnemonic : String)
  /-- `Cfg` fails one of W1 to W8: raised by every step (spec/00_scope.md R11, spec/93 U1; log 9). Safe. -/
  | illFormedConfig
  /-- K.begin latches an `h_trim` outside the trim contract: raised by the kernel operations
  (spec/43_display_config_ops.md R217, spec/93 U3; log 10). Safe. -/
  | hTrimOutsideContract
  /-- The wrap latches a `v_trim` outside the trim contract: raised by LINE.INACTIVE
  (spec/43_display_config_ops.md R217, spec/93 U3; log 10). Safe. -/
  | vTrimOutsideContract
  /-- A line in progress does not fit its period, a state no run reaches: raised by the clock cycle
  (spec/00_scope.md R16 (g), spec/93 U3; log 11). Safe. -/
  | lineOutsidePeriod
  deriving DecidableEq, Repr

/-- The state of VSG. The first field and the last four are the model's own (log 1, 3, 4, 7); every other one is
named by the rule of spec/10_state.md in its comment. -/
structure State where
  /-- The configuration, constant (spec/00_scope.md R7). -/
  cfg : Cfg
  /-- R22 (log 17) -/
  hcount : BitVec 16
  /-- R23 -/
  lineNumber : BitVec 16
  /-- R24 -/
  handler : Handler
  /-- R30 -/
  swPending : SyncWidth
  /-- R30 -/
  swActive : SyncWidth
  /-- R29 -/
  frameCount : BitVec 16
  /-- R27 -/
  tileRowOffset : BitVec 8
  /-- R28 -/
  rowPtr : Addr
  /-- R33 -/
  fontBase : Addr
  /-- R34 -/
  ramtBase : Addr
  /-- R35 -/
  hFine : Scroll
  /-- R37 -/
  vFine : Scroll
  /-- R38 -/
  hTrim : Byte
  /-- R39 -/
  vTrim : Byte
  /-- R44 -/
  vTrimL : Byte
  /-- R43 -/
  lh : Scroll
  /-- R43 -/
  ltrim : Byte
  /-- R43 -/
  lfont : Addr
  /-- R43 -/
  lram : Addr
  /-- R45 -/
  rendering : Bool
  /-- R46 -/
  cell : Byte
  /-- R46 -/
  cur : Byte
  /-- R47 -/
  irqQ : Bool
  /-- R47 -/
  eodQ : Bool
  /-- R41, R42 -/
  screen : Memory
  /-- R41, R42 -/
  ramt : Memory
  /-- The inputs of the cycles to come, head first; none left means `rst` = 0 and a NOP word (log 3). -/
  inputs : List Input
  /-- What `h_rdata` showed in the cycle just executed (spec/30_encoding.md R95; log 4). -/
  hRdata : Byte
  /-- How many fresh arbitrary bytes the host's reads have drawn (log 7). -/
  hostDraws : Nat
  /-- How many fresh arbitrary bytes the renderer's reads have drawn (log 7). -/
  rendDraws : Nat
  deriving DecidableEq, Repr

/-- The state right after reset of the instance with configuration `c` (spec/10_state.md R48), with no byte of
SCREEN or RAMT written and no input pending. -/
def State.resetOf (c : Cfg) : State where
  cfg := c
  hcount := 0
  lineNumber := 0
  handler := .inactive
  swPending := .h
  swActive := .h
  frameCount := 0
  tileRowOffset := 0
  rowPtr := 0
  fontBase := 0
  ramtBase := 0
  hFine := 0
  vFine := 0
  hTrim := 0
  vTrim := 0
  vTrimL := 0
  lh := 0
  ltrim := 0
  lfont := 0
  lram := 0
  rendering := false
  cell := 0
  cur := 0
  irqQ := false
  eodQ := false
  screen := []
  ramt := []
  inputs := []
  hRdata := 0
  hostDraws := 0
  rendDraws := 0

/-- The machine right after reset, for the configuration `Config.build` (log 2). -/
def State.reset : State := State.resetOf Config.build

end Sys2Proof.Machine
end

