-- ==== Sys2Proof/Machine/Flags.lean ====
section
/-! DEFINITION. VSG has no status flags (spec/10_state.md R31). What it has in their place are the two strobe
registers `irq_q` and `eod_q` (R47) and the boundary conditions that the line operations test. -/

namespace Sys2Proof.Machine

/-- Each strobe is 1 for exactly one cycle: unless an event of the cycle sets it, it is 0 after the cycle
(spec/10_state.md R47). -/
def State.clearStrobes (s : State) : State := { s with irqQ := false, eodQ := false }

/-- `irq_q <- 1`: a line operation has completed (spec/60_exceptions.md R256). -/
def State.raiseIrq (s : State) : State := { s with irqQ := true }

/-- `eod_q <- 1`: the end-of-display hook (spec/60_exceptions.md R257). -/
def State.raiseEod (s : State) : State := { s with eodQ := true }

/-- `AS_eff` of the current frame (spec/41_line_state_machine.md R149). -/
def State.asEff (s : State) : Int := s.cfg.activeStartEff s.vTrimL

/-- `AE_eff` of the current frame (spec/41_line_state_machine.md R149). -/
def State.aeEff (s : State) : Int := s.cfg.activeEndEff s.vTrimL

/-- `ln == LINES_PER_FRAME`, the first check of LINE.INACTIVE (spec/41_line_state_machine.md R142). -/
def State.atWrap (s : State) (ln : BitVec 16) : Bool := decide (ln.toNat = s.cfg.linesPerFrame)

/-- `ln == VSYNC_END`, the second check (spec/41_line_state_machine.md R143). -/
def State.atVsyncEnd (s : State) (ln : BitVec 16) : Bool := decide (ln.toNat = s.cfg.vsyncEnd)

/-- `ln == ACTIVE_START + sext(v_trim_l)`, the third check (spec/41_line_state_machine.md R144). -/
def State.atActiveStart (s : State) (ln : BitVec 16) : Bool := decide ((ln.toNat : Int) = s.asEff)

/-- `line_number == ACTIVE_END + sext(v_trim_l)`: the line being completed is the last of the active region
(spec/42_pixel_kernels.md R172, R174). -/
def State.atLastLine (s : State) : Bool := decide ((s.lineNumber.toNat : Int) = s.aeEff)

/-- `tile_row_offset + 1 == TILE_H` (spec/42_pixel_kernels.md R172, R173). -/
def State.atLastTileRow (s : State) : Bool := decide (s.tileRowOffset.toNat + 1 = s.cfg.tileH)

/-- The current cycle is the last of its period: the tick occurs at its end (spec/40_scanline_timer_sync.md R120). -/
def State.atTick (s : State) : Bool := decide (s.hcount.toNat + 1 = s.cfg.hCycles)

/-- `Region(L)` for the line number `l` (spec/41_line_state_machine.md R147), derived and not stored (R25). The
table ends at `LINES_PER_FRAME`; a larger number, which no run reaches, reads PostActive (log 19). -/
def State.regionOf (s : State) (l : Nat) : Region :=
  if l = 0 then .preSync
  else if l < s.cfg.vsyncEnd then .sync
  else if (l : Int) < s.asEff then .postSync
  else if (l : Int) < s.aeEff then .active
  else .postActive

/-- `region`, the region of the current line (spec/10_state.md R25). -/
def State.region (s : State) : Region := s.regionOf s.lineNumber.toNat

end Sys2Proof.Machine
end

