-- ==== Sys2Proof/Machine/Operands.lean ====
section
/-! DEFINITION. The operand forms: halves of the 16-bit registers, scroll and trim values, the mask, the CONFIG byte,
the effective addresses of a kernel, the pixels of a tile byte and the schedule of a rendered line. -/

namespace Sys2Proof.Machine

/-! ## Host-programmable registers -/

/-- Bits [7:0] of a 16-bit register (spec/20_memory.md R63). -/
def loByte (w : BitVec 16) : Byte := w.extractLsb' 0 8

/-- Bits [15:8] of a 16-bit register (spec/20_memory.md R63). -/
def hiByte (w : BitVec 16) : Byte := w.extractLsb' 8 8

/-- A 16-bit register of its two halves, `{HI, LO}` (spec/30_encoding.md R103). -/
def ofHalves (hi lo : Byte) : BitVec 16 := hi ++ lo

/-- A register with bits [7:0] replaced (spec/43_display_config_ops.md R202, R204). -/
def setLo (w : BitVec 16) (d : Byte) : BitVec 16 := ofHalves (hiByte w) d

/-- A register with bits [15:8] replaced (spec/43_display_config_ops.md R203, R205). -/
def setHi (w : BitVec 16) (d : Byte) : BitVec 16 := ofHalves d (loByte w)

/-- `h_wdata[2:0]`, what a scroll register stores of a written byte (spec/30_encoding.md R100). -/
def scrollOf (d : Byte) : Scroll := d.extractLsb' 0 3

/-- `zext_8` of a scroll value: bits [7:3] read 0 (spec/43_display_config_ops.md R222, R224). -/
def scrollByte (v : Scroll) : Byte := v.setWidth 8

/-- `h_mask = 0xFF >> h` (spec/30_encoding.md R102, spec/10_state.md R36). -/
def maskOf (h : Scroll) : Byte := (0xFF : Byte) >>> h.toNat

/-- One bit of CONFIG. -/
def bit (b : Bool) : BitVec 1 := BitVec.ofBool b

/-- The CONFIG byte (spec/10_state.md R40). -/
def configByte (c : Cfg) : Byte :=
  bit (decide (c.standard = .pal)) ++ bit (decide (c.tileLayout = .rowMajor)) ++ bit c.trimEn ++
    bit c.vscrollEn ++ bit c.msbFirst ++ bit (decide (c.cpp = 4)) ++ c.variant.code

/-! ## The sequencer selector -/

/-- The bit of `handler`: 0 = Inactive, 1 = Kernel (spec/10_state.md R24). -/
def Handler.bit : Handler → BitVec 1
  | .inactive => 0
  | .kernel => 1

/-- The SEQ selector `{handler, CONFIG[1:0]}` (spec/30_encoding.md R93). -/
def State.selector (s : State) : SeqWord := s.handler.bit ++ s.cfg.variant.code

/-! ## Effective addresses -/

/-- `ScrAddr(c)` (spec/42_pixel_kernels.md R163). -/
def State.scrAddr (s : State) (col : Nat) : Addr := s.rowPtr + BitVec.ofNat 16 col

/-- The bank of a cell: RAMT when `HAS_RAM` = 1 and `T[7]` = 1, else ROM (spec/42_pixel_kernels.md R164). -/
def bankOf (c : Cfg) (t : Byte) : Space := if c.hasRam && t.getLsbD 7 then .ramt else .rom

/-- `N`, the number of tiles of a bank (spec/42_pixel_kernels.md R165). -/
def tilesIn (c : Cfg) (b : Space) : Nat := if b = .ramt then c.ramTiles else c.romTiles

/-- The index of a cell within its bank: 8 bits without RAM tiles, 7 with them, reduced by the number of tiles of
the bank (spec/42_pixel_kernels.md R164). -/
def indexOf (c : Cfg) (t : Byte) : Nat :=
  (if c.hasRam then (t.extractLsb' 0 7).toNat else t.toNat) % tilesIn c (bankOf c t)

/-- `TileAddr` of row `r` of tile `idx` of a bank with `n` tiles at `base` (spec/42_pixel_kernels.md R165). -/
def tileAddr (c : Cfg) (base : Addr) (n idx r : Nat) : Addr :=
  match c.tileLayout with
  | .tileMajor => BitVec.ofNat 16 (base.toNat + idx * c.tileH + r)
  | .rowMajor => BitVec.ofNat 16 (base.toNat + r * n + idx)

/-- The base pointer in force on this line for a bank (spec/42_pixel_kernels.md R165). -/
def State.baseOf (s : State) (b : Space) : Addr := if b = .ramt then s.lram else s.lfont

/-- The address of the bitmap byte of cell `t` in the row `tile_row_offset` (spec/42_pixel_kernels.md R165, R166). -/
def State.cellAddr (s : State) (t : Byte) : Addr :=
  tileAddr s.cfg (s.baseOf (bankOf s.cfg t)) (tilesIn s.cfg (bankOf s.cfg t)) (indexOf s.cfg t)
    s.tileRowOffset.toNat

/-! ## Pixels and slots -/

/-- `PixelBit(b, k)` (spec/42_pixel_kernels.md R167, spec/20_memory.md R62). -/
def pixelBit (c : Cfg) (b : Byte) (k : Nat) : Bool := if c.msbFirst then b.getLsbD (7 - k) else b.getLsbD k

/-- `Visible(c, k)` on a line with the scroll `h` (spec/42_pixel_kernels.md R168). -/
def visible (c : Cfg) (h : Scroll) (col k : Nat) : Bool :=
  if c.hasHScroll then
    (if col = 0 then decide (h.toNat ≤ k) else if col = c.visCols then decide (k < h.toNat) else true)
  else true

/-- `x0` of the line in progress (spec/42_pixel_kernels.md R162). -/
def State.x0 (s : State) : Int := s.cfg.lineStart s.ltrim s.lh

/-- `x_end` of the line in progress (spec/42_pixel_kernels.md R162). -/
def State.xEnd (s : State) : Int := s.cfg.lineEnd s.ltrim s.lh

/-- The column `c` with `g(c) - lead = hcount`, if there is one (spec/42_pixel_kernels.md R166): the cell of
column c is read with `lead` 2, its bitmap byte with `lead` 1. -/
def State.columnDue (s : State) (lead : Nat) : Option Nat :=
  let d : Int := s.hcount.toNat + lead - s.x0
  if 0 ≤ d ∧ d % s.cfg.colCycles = 0 ∧ d / s.cfg.colCycles < s.cfg.fetchCols then
    some (d / s.cfg.colCycles).toNat
  else none

/-- The current cycle is `x_end - 1`, at whose end K.end commits (spec/42_pixel_kernels.md R172). -/
def State.kEndDue (s : State) : Bool := decide ((s.hcount.toNat : Int) + 1 = s.xEnd)

end Sys2Proof.Machine
end

