-- ==== Sys2Proof/Machine/Ops.lean ====
section
/-! DEFINITION. The named operations over memory and registers. VSG takes no exception and returns from none
(spec/60_exceptions.md R250, R262); its one interrupt-like event, the tick, is in Machine/Cycle.lean. -/

namespace Sys2Proof.Machine

/-! ## Memory -/

/-- The byte written at an address, if the host has written one. -/
def Memory.find : Memory → Nat → Option Byte
  | [], _ => none
  | (a, b) :: m, x => if x = a then some b else Memory.find m x

/-- Write one byte, keeping the addresses strictly rising. -/
def Memory.write : Memory → Nat → Byte → Memory
  | [], x, v => [(x, v)]
  | (a, b) :: m, x, v =>
    if x < a then (x, v) :: (a, b) :: m
    else if x = a then (x, v) :: m
    else (a, b) :: Memory.write m x v

/-- The canonical form: addresses strictly rising and below `bound`. An unlisted address reads as "not written",
so no entry can equal what it reads as (log 6). -/
def Memory.wf (bound : Nat) : Memory → Bool
  | [] => true
  | [(a, _)] => decide (a < bound)
  | (a, _) :: (b, v) :: m => decide (a < b) && Memory.wf bound ((b, v) :: m)

/-- The address is populated in its space (spec/10_state.md R41, spec/20_memory.md R73): RAMT exists only when
`HAS_RAM` = 1. -/
def populated (c : Cfg) (sp : Space) (a : Addr) : Bool :=
  match sp with
  | .screen => decide (a.toNat < c.screenBytes)
  | .rom => decide (a.toNat < c.romBytes)
  | .ramt => c.hasRam && decide (a.toNat < c.ramBytes)

/-- What a populated byte holds: the last byte written, or the free value of an address never written
(spec/10_state.md R42); in ROM, `Cfg.ROM`. -/
def State.stored (s : State) (sp : Space) (a : Addr) : Byte :=
  match sp with
  | .screen => (Memory.find s.screen a.toNat).getD (Config.screenPowerUp a.toNat)
  | .rom => s.cfg.rom.getD a.toNat 0
  | .ramt => (Memory.find s.ramt a.toNat).getD (Config.ramtPowerUp a.toNat)

/-- `MemRead(space, a, 1)`; at an unpopulated address the fresh arbitrary byte `free`
(spec/00_scope.md R14, spec/20_memory.md R73). -/
def State.memRead (s : State) (sp : Space) (a : Addr) (free : Byte) : Byte :=
  if populated s.cfg sp a then s.stored sp a else free

/-- `MemWrite(space, a, 1, v)`; a write to an unpopulated address is dropped, and ROM is written by nothing
(spec/00_scope.md R14, spec/20_memory.md R61, R73). -/
def State.memWrite (s : State) (sp : Space) (a : Addr) (v : Byte) : State :=
  if populated s.cfg sp a then
    match sp with
    | .screen => { s with screen := Memory.write s.screen a.toNat v }
    | .rom => s
    | .ramt => { s with ramt := Memory.write s.ramt a.toNat v }
  else s

/-! ## The host side -/

/-- Drive `h_rdata` in this cycle (spec/30_encoding.md R95). -/
def State.putRdata (s : State) (b : Byte) : State := { s with hRdata := b }

/-- A read of a memory space by the host: `h_rdata` is the byte, or a fresh arbitrary byte, and no other state
changes (spec/43_display_config_ops.md R232, R234). -/
def State.hostRead (s : State) (sp : Space) (a : Addr) : State :=
  { s with
    hRdata := s.memRead sp a (Config.hostUnpopulated s.hostDraws)
    hostDraws := if populated s.cfg sp a then s.hostDraws else s.hostDraws + 1 }

/-- The answer of a host operation: a next state, always; no HB operation is refused by VSG
(spec/43_display_config_ops.md R200). -/
def done (s : State) : Host.Outcome State Fault Refusal := .next s

/-! ## The renderer side -/

/-- The cell fetch of column `col`: `cell <- MemRead(SCREEN, ScrAddr(c), 1)` (spec/42_pixel_kernels.md R166). -/
def State.fetchCell (s : State) (col : Nat) : State :=
  { s with
    cell := s.memRead .screen (s.scrAddr col) (Config.rendererUnpopulated s.rendDraws)
    rendDraws := if populated s.cfg .screen (s.scrAddr col) then s.rendDraws else s.rendDraws + 1 }

/-- The bitmap fetch: `cur <- TileByte(cell, tile_row_offset)` (spec/42_pixel_kernels.md R165, R166). -/
def State.fetchTile (s : State) : State :=
  { s with
    cur := s.memRead (bankOf s.cfg s.cell) (s.cellAddr s.cell) (Config.rendererUnpopulated s.rendDraws)
    rendDraws :=
      if populated s.cfg (bankOf s.cfg s.cell) (s.cellAddr s.cell) then s.rendDraws else s.rendDraws + 1 }

/-- The row advance of K.end (spec/42_pixel_kernels.md R172, R173). -/
def State.advanceRow (s : State) : State :=
  if s.atLastTileRow then { s with tileRowOffset := 0, rowPtr := s.rowPtr + BitVec.ofNat 16 s.cfg.bufCols }
  else { s with tileRowOffset := s.tileRowOffset + 1 }

/-- The hand-back of K.end: on the last line of the active region raise `eod`, return `handler` to Inactive and
count the frame (spec/42_pixel_kernels.md R172, R174; spec/90_conflicts.md C1). -/
def State.handBack (s : State) : State :=
  if s.atLastLine then { s with eodQ := true, handler := .inactive, frameCount := s.frameCount + 1 } else s

/-- K.end, the mandatory post-conditions (spec/42_pixel_kernels.md R172). -/
def State.kEnd (s : State) : State := { (s.advanceRow.handBack.raiseIrq) with rendering := false }

/-- K.begin of a kernel operation that latches the scroll `scroll` (spec/42_pixel_kernels.md R161); refused when it
latches an `h_trim` outside the trim contract (spec/43_display_config_ops.md R217, spec/93 U3). -/
def kBegin (scroll : Scroll) (s : State) : Host.Outcome State Fault Refusal :=
  if s.cfg.hTrimOk s.hTrim then
    .next { s with
      lineNumber := s.lineNumber + 1
      rendering := true
      lh := scroll
      ltrim := if s.cfg.trimEn then s.hTrim else 0
      lfont := s.fontBase
      lram := s.ramtBase }
  else .refused .hTrimOutsideContract

end Sys2Proof.Machine
end

