-- ==== Sys2Proof/Machine/HostMemory.lean ====
section
/-! DEFINITION. The four memory operations (spec/43_display_config_ops.md R231 to R234). -/

namespace Sys2Proof.Machine

/-- WRS: write a SCREEN byte, dropped at or above `SCREEN_BYTES` (spec/43_display_config_ops.md R231). -/
def execWrs (a : Addr) (d : Byte) (s : State) : Host.Outcome State Fault Refusal :=
  done ((s.memWrite .screen a d).putRdata 0)

/-- RDS: read a SCREEN byte, an arbitrary byte at or above `SCREEN_BYTES` (spec/43_display_config_ops.md R232). -/
def execRds (a : Addr) (s : State) : Host.Outcome State Fault Refusal := done (s.hostRead .screen a)

/-- WRT: write a RAMT byte, dropped without RAM tiles or at or above `RAM_BYTES`
(spec/43_display_config_ops.md R233, spec/30_encoding.md R105 (f)). -/
def execWrt (a : Addr) (d : Byte) (s : State) : Host.Outcome State Fault Refusal :=
  done ((s.memWrite .ramt a d).putRdata 0)

/-- RDT: read a RAMT byte, an arbitrary byte without RAM tiles or at or above `RAM_BYTES`
(spec/43_display_config_ops.md R234, spec/30_encoding.md R105 (f)). -/
def execRdt (a : Addr) (s : State) : Host.Outcome State Fault Refusal := done (s.hostRead .ramt a)

end Sys2Proof.Machine
end

