-- ==== Sys2Proof/Machine/HostReads.lean ====
section
/-! DEFINITION. The thirteen register reads (spec/43_display_config_ops.md R218 to R230): `h_rdata` is the register's value at the start of
the cycle, and no state changes. -/

namespace Sys2Proof.Machine

/-- RD.FONT_LO (spec/43_display_config_ops.md R218). -/
def execRdFontLo (s : State) : Host.Outcome State Fault Refusal := done (s.putRdata (loByte s.fontBase))

/-- RD.FONT_HI (spec/43_display_config_ops.md R219). -/
def execRdFontHi (s : State) : Host.Outcome State Fault Refusal := done (s.putRdata (hiByte s.fontBase))

/-- RD.RAMT_LO (spec/43_display_config_ops.md R220). -/
def execRdRamtLo (s : State) : Host.Outcome State Fault Refusal := done (s.putRdata (loByte s.ramtBase))

/-- RD.RAMT_HI (spec/43_display_config_ops.md R221). -/
def execRdRamtHi (s : State) : Host.Outcome State Fault Refusal := done (s.putRdata (hiByte s.ramtBase))

/-- RD.H_SCROLL (spec/43_display_config_ops.md R222). -/
def execRdHScroll (s : State) : Host.Outcome State Fault Refusal := done (s.putRdata (scrollByte s.hFine))

/-- RD.H_MASK: `0xFF >> h_fine` (spec/43_display_config_ops.md R223). -/
def execRdHMask (s : State) : Host.Outcome State Fault Refusal := done (s.putRdata (maskOf s.hFine))

/-- RD.V_SCROLL (spec/43_display_config_ops.md R224). -/
def execRdVScroll (s : State) : Host.Outcome State Fault Refusal := done (s.putRdata (scrollByte s.vFine))

/-- RD.H_TRIM: the stored byte, whatever `TRIM_EN` (spec/43_display_config_ops.md R225). -/
def execRdHTrim (s : State) : Host.Outcome State Fault Refusal := done (s.putRdata s.hTrim)

/-- RD.V_TRIM: the stored byte, not `v_trim_l` (spec/43_display_config_ops.md R226). -/
def execRdVTrim (s : State) : Host.Outcome State Fault Refusal := done (s.putRdata s.vTrim)

/-- RD.FRAME_LO (spec/43_display_config_ops.md R227). -/
def execRdFrameLo (s : State) : Host.Outcome State Fault Refusal := done (s.putRdata (loByte s.frameCount))

/-- RD.FRAME_HI (spec/43_display_config_ops.md R228). -/
def execRdFrameHi (s : State) : Host.Outcome State Fault Refusal := done (s.putRdata (hiByte s.frameCount))

/-- RD.CONFIG (spec/43_display_config_ops.md R229). -/
def execRdConfig (s : State) : Host.Outcome State Fault Refusal := done (s.putRdata (configByte s.cfg))

/-- RD.RSVD: 0x00 (spec/43_display_config_ops.md R230). -/
def execRdRsvd (_a : Addr) (s : State) : Host.Outcome State Fault Refusal := done (s.putRdata 0)

end Sys2Proof.Machine
end

