-- ==== Sys2Proof/Machine/HostReserved.lean ====
section
/-! DEFINITION. The idle word and the reserved forms (spec/43_display_config_ops.md R201, R235 to R237): no state changes and
`h_rdata` is 0x00. -/

namespace Sys2Proof.Machine

/-- NOP (spec/43_display_config_ops.md R201). -/
def execNop (s : State) : Host.Outcome State Fault Refusal := done (s.putRdata 0)

/-- WR.SEL3 (spec/43_display_config_ops.md R235). -/
def execWrSel3 (s : State) : Host.Outcome State Fault Refusal := done (s.putRdata 0)

/-- RD.SEL3 (spec/43_display_config_ops.md R236). -/
def execRdSel3 (s : State) : Host.Outcome State Fault Refusal := done (s.putRdata 0)

/-- BOTH: both strobes at once do nothing (spec/43_display_config_ops.md R237). -/
def execBoth (s : State) : Host.Outcome State Fault Refusal := done (s.putRdata 0)

end Sys2Proof.Machine
end

