-- ==== Sys2Proof/Machine/HostWrites.lean ====
section
/-! DEFINITION. The thirteen register writes (spec/43_display_config_ops.md R202 to R214). In a cycle without a read `h_rdata` is 0x00
(spec/30_encoding.md R95). -/

namespace Sys2Proof.Machine

/-- WR.FONT_LO: `font_base[7:0] <- dd` (spec/43_display_config_ops.md R202). -/
def execWrFontLo (d : Byte) (s : State) : Host.Outcome State Fault Refusal :=
  done (State.putRdata { s with fontBase := setLo s.fontBase d } 0)

/-- WR.FONT_HI: `font_base[15:8] <- dd` (spec/43_display_config_ops.md R203). -/
def execWrFontHi (d : Byte) (s : State) : Host.Outcome State Fault Refusal :=
  done (State.putRdata { s with fontBase := setHi s.fontBase d } 0)

/-- WR.RAMT_LO: `ramt_base[7:0] <- dd`, in every variant (spec/43_display_config_ops.md R204). -/
def execWrRamtLo (d : Byte) (s : State) : Host.Outcome State Fault Refusal :=
  done (State.putRdata { s with ramtBase := setLo s.ramtBase d } 0)

/-- WR.RAMT_HI: `ramt_base[15:8] <- dd`, in every variant (spec/43_display_config_ops.md R205). -/
def execWrRamtHi (d : Byte) (s : State) : Host.Outcome State Fault Refusal :=
  done (State.putRdata { s with ramtBase := setHi s.ramtBase d } 0)

/-- WR.H_SCROLL: `h_fine <- dd[2:0]`; `h_mask` is derived (spec/43_display_config_ops.md R206). -/
def execWrHScroll (d : Byte) (s : State) : Host.Outcome State Fault Refusal :=
  done (State.putRdata { s with hFine := scrollOf d } 0)

/-- WR.H_MASK: nothing, H_MASK is read-only (spec/43_display_config_ops.md R207). -/
def execWrHMask (_d : Byte) (s : State) : Host.Outcome State Fault Refusal := done (s.putRdata 0)

/-- WR.V_SCROLL: `v_fine <- dd[2:0]` (spec/43_display_config_ops.md R208). -/
def execWrVScroll (d : Byte) (s : State) : Host.Outcome State Fault Refusal :=
  done (State.putRdata { s with vFine := scrollOf d } 0)

/-- WR.H_TRIM: `h_trim <- dd` (spec/43_display_config_ops.md R209). -/
def execWrHTrim (d : Byte) (s : State) : Host.Outcome State Fault Refusal :=
  done (State.putRdata { s with hTrim := d } 0)

/-- WR.V_TRIM: `v_trim <- dd`; `v_trim_l` follows at the next wrap (spec/43_display_config_ops.md R210). -/
def execWrVTrim (d : Byte) (s : State) : Host.Outcome State Fault Refusal :=
  done (State.putRdata { s with vTrim := d } 0)

/-- WR.FRAME_LO: nothing, the frame counter is written only by the renderer (spec/43_display_config_ops.md R211). -/
def execWrFrameLo (_d : Byte) (s : State) : Host.Outcome State Fault Refusal := done (s.putRdata 0)

/-- WR.FRAME_HI: nothing (spec/43_display_config_ops.md R212). -/
def execWrFrameHi (_d : Byte) (s : State) : Host.Outcome State Fault Refusal := done (s.putRdata 0)

/-- WR.CONFIG: nothing, the configuration is fixed per build (spec/43_display_config_ops.md R213). -/
def execWrConfig (_d : Byte) (s : State) : Host.Outcome State Fault Refusal := done (s.putRdata 0)

/-- WR.RSVD: nothing (spec/43_display_config_ops.md R214). -/
def execWrRsvd (_a : Addr) (_d : Byte) (s : State) : Host.Outcome State Fault Refusal := done (s.putRdata 0)

end Sys2Proof.Machine
end

