-- ==== Sys2Proof/Machine/Kernel.lean ====
section
/-! DEFINITION. Operations LINE.K6, LINE.K8, LINE.K8R and LINE.K8RS (spec/42_pixel_kernels.md R176 to R179), each with
the scroll of its own rule (log 18). What a kernel operation does at its tick is K.begin
(spec/40_scanline_timer_sync.md R121 (c)); what it does in the cycles after it, fetch, emission and K.end, is
`kernelCycle`, which the clock cycle runs while `rendering` = 1 (log 5). -/

namespace Sys2Proof.Machine

/-- LINE.K6 at its tick: K.begin with lh = 0 (spec/42_pixel_kernels.md R176). -/
def execLineK6 (s : State) : Host.Outcome State Fault Refusal := kBegin 0 s

/-- LINE.K8 at its tick: K.begin with lh = 0 (spec/42_pixel_kernels.md R177). -/
def execLineK8 (s : State) : Host.Outcome State Fault Refusal := kBegin 0 s

/-- LINE.K8R at its tick: K.begin with lh = 0 (spec/42_pixel_kernels.md R178). -/
def execLineK8r (s : State) : Host.Outcome State Fault Refusal := kBegin 0 s

/-- LINE.K8RS at its tick: K.begin with lh = h_fine (spec/42_pixel_kernels.md R179). -/
def execLineK8rs (s : State) : Host.Outcome State Fault Refusal := kBegin s.hFine s

/-- One cycle of the kernel operation in progress (spec/42_pixel_kernels.md R166, R172). No two of the three are due
in one cycle: two fetches are a whole column apart but for one cycle, and K.end is a column after the last fetch
(log 16). -/
def kernelCycle (s : State) : State :=
  if s.rendering then
    match s.columnDue 2 with
    | some col => s.fetchCell col
    | none =>
      match s.columnDue 1 with
      | some _ => s.fetchTile
      | none => if s.kEndDue then s.kEnd else s
  else s

end Sys2Proof.Machine
end

