-- ==== Sys2Proof/Machine/LineInactive.lean ====
section
/-! DEFINITION. Operation LINE.INACTIVE, the frame/line state machine (spec/41_line_state_machine.md). -/

namespace Sys2Proof.Machine

/-- The wrap transition (spec/41_line_state_machine.md R142): back to line 0, vertical width, the vertical trim of
the new frame. `frame_count` does not change (spec/90_conflicts.md C1). -/
def State.wrap (s : State) : State :=
  { s with
    lineNumber := 0
    swPending := .v
    vTrimL := if s.cfg.trimEn then s.vTrim else 0 }

/-- The vsync-end transition (spec/41_line_state_machine.md R143). -/
def State.vsyncEndTo (s : State) (ln : BitVec 16) : State := { s with lineNumber := ln, swPending := .h }

/-- The active-start transition, the setup (spec/41_line_state_machine.md R144). -/
def State.setup (s : State) (ln : BitVec 16) : State :=
  { s with
    lineNumber := ln
    handler := .kernel
    tileRowOffset := if s.cfg.vscrollEn then scrollByte s.vFine else 0
    rowPtr := 0 }

/-- LINE.INACTIVE (spec/41_line_state_machine.md R141): increment, then the three boundary checks in their fixed
order (R146). A wrap that would latch a `v_trim` outside the trim contract is refused
(spec/43_display_config_ops.md R217, spec/93 U3). -/
def execLineInactive (s : State) : Host.Outcome State Fault Refusal :=
  let ln := s.lineNumber + 1
  if s.atWrap ln then
    if s.cfg.vTrimOk s.vTrim then .next s.wrap.raiseIrq else .refused .vTrimOutsideContract
  else if s.atVsyncEnd ln then .next (s.vsyncEndTo ln).raiseIrq
  else if s.atActiveStart ln then .next (s.setup ln).raiseIrq
  else .next { s with lineNumber := ln, irqQ := true }

end Sys2Proof.Machine
end

