-- ==== Sys2Proof/Machine/Reset.lean ====
section
/-! DEFINITION. Operation RESET (spec/70_reset_and_hazards.md R280). -/

namespace Sys2Proof.Machine

/-- RESET: every register takes the value of spec/10_state.md R48; SCREEN and RAMT are not written, and
`h_rdata` = 0x00. The configuration, the inputs still to come and the draw counters are the model's own and stay
(spec/70_reset_and_hazards.md R280; log 7). -/
def execReset (s : State) : Host.Outcome State Fault Refusal :=
  .next { State.resetOf s.cfg with
    screen := s.screen
    ramt := s.ramt
    inputs := s.inputs
    hostDraws := s.hostDraws
    rendDraws := s.rendDraws }

end Sys2Proof.Machine
end

