-- ==== Sys2Proof/Machine/Dispatch.lean ====
section
/-! DEFINITION. The meaning of each operation: what it does in the clock cycle in which it acts, reading the state
of the start of that cycle (spec/00_scope.md R14). -/

namespace Sys2Proof.Machine

def exec (i : Instr) (s : State) : Host.Outcome State Fault Refusal :=
  match i with
  | .reset => Sys2Proof.Machine.execReset s
  | .lineInactive => Sys2Proof.Machine.execLineInactive s
  | .lineK6 => Sys2Proof.Machine.execLineK6 s
  | .lineK8 => Sys2Proof.Machine.execLineK8 s
  | .lineK8r => Sys2Proof.Machine.execLineK8r s
  | .lineK8rs => Sys2Proof.Machine.execLineK8rs s
  | .nop => Sys2Proof.Machine.execNop s
  | .wrFontLo d => Sys2Proof.Machine.execWrFontLo d s
  | .wrFontHi d => Sys2Proof.Machine.execWrFontHi d s
  | .wrRamtLo d => Sys2Proof.Machine.execWrRamtLo d s
  | .wrRamtHi d => Sys2Proof.Machine.execWrRamtHi d s
  | .wrHScroll d => Sys2Proof.Machine.execWrHScroll d s
  | .wrHMask d => Sys2Proof.Machine.execWrHMask d s
  | .wrVScroll d => Sys2Proof.Machine.execWrVScroll d s
  | .wrHTrim d => Sys2Proof.Machine.execWrHTrim d s
  | .wrVTrim d => Sys2Proof.Machine.execWrVTrim d s
  | .wrFrameLo d => Sys2Proof.Machine.execWrFrameLo d s
  | .wrFrameHi d => Sys2Proof.Machine.execWrFrameHi d s
  | .wrConfig d => Sys2Proof.Machine.execWrConfig d s
  | .wrRsvd a d => Sys2Proof.Machine.execWrRsvd a d s
  | .rdFontLo => Sys2Proof.Machine.execRdFontLo s
  | .rdFontHi => Sys2Proof.Machine.execRdFontHi s
  | .rdRamtLo => Sys2Proof.Machine.execRdRamtLo s
  | .rdRamtHi => Sys2Proof.Machine.execRdRamtHi s
  | .rdHScroll => Sys2Proof.Machine.execRdHScroll s
  | .rdHMask => Sys2Proof.Machine.execRdHMask s
  | .rdVScroll => Sys2Proof.Machine.execRdVScroll s
  | .rdHTrim => Sys2Proof.Machine.execRdHTrim s
  | .rdVTrim => Sys2Proof.Machine.execRdVTrim s
  | .rdFrameLo => Sys2Proof.Machine.execRdFrameLo s
  | .rdFrameHi => Sys2Proof.Machine.execRdFrameHi s
  | .rdConfig => Sys2Proof.Machine.execRdConfig s
  | .rdRsvd a => Sys2Proof.Machine.execRdRsvd a s
  | .wrs a d => Sys2Proof.Machine.execWrs a d s
  | .rds a => Sys2Proof.Machine.execRds a s
  | .wrt a d => Sys2Proof.Machine.execWrt a d s
  | .rdt a => Sys2Proof.Machine.execRdt a s
  | .wrSel3 => Sys2Proof.Machine.execWrSel3 s
  | .rdSel3 => Sys2Proof.Machine.execRdSel3 s
  | .both => Sys2Proof.Machine.execBoth s

end Sys2Proof.Machine
end

