-- ==== Sys2Proof/Machine/Cycle.lean ====
section
/-! DEFINITION. One clock cycle (spec/20_memory.md R66, spec/60_exceptions.md R259): the inputs of the cycle, the tick, the renderer's
half, the host's half, and how they commit together; and where a word is placed so that the next cycle runs it. -/

namespace Sys2Proof.Machine

/-! ## The inputs of the cycle -/

/-- An idle host: `rst` = 0 and the NOP word (spec/43_display_config_ops.md R201; log 3). -/
def Input.idle : Input := ⟨0, 0⟩

/-- The pins in this cycle. -/
def State.pins (s : State) : Input := s.inputs.headD Input.idle

/-- The state with this cycle's pins taken off the inputs still to come. -/
def State.popInput (s : State) : State := { s with inputs := s.inputs.tail }

/-! ## The renderer's half -/

/-- The tick (spec/40_scanline_timer_sync.md R121): `hcount <- 0`, `sw_active <- sw_pending` as it stood before,
and the line operation that the selector names (spec/30_encoding.md R93) does its tick-time writes. It is the one
interrupt-like event: it saves nothing, masks nothing and returns to nothing (spec/60_exceptions.md R254, R260). -/
def tick (s : State) : Host.Outcome State Fault Refusal :=
  exec (decodeSeq s.selector) { s with hcount := 0, swActive := s.swPending }

/-- The counter: a tick at the end of the last cycle of a period, else one more
(spec/40_scanline_timer_sync.md R120). -/
def counterStep (s : State) : Host.Outcome State Fault Refusal :=
  if s.atTick then tick s else .next { s with hcount := s.hcount + 1 }

/-- The renderer's half of a cycle: strobes fall, the line operation in progress goes on, the counter steps. A line
that does not fit its period is refused (spec/00_scope.md R16 (g); log 11), so that neither a fetch nor K.end ever
falls in the cycle of a tick (spec/60_exceptions.md R259). -/
def rendererCycle (s : State) : Host.Outcome State Fault Refusal :=
  if s.rendering && !s.cfg.lineFits s.ltrim s.lh then .refused .lineOutsidePeriod
  else counterStep (kernelCycle s.clearStrobes)

/-! ## Both halves together -/

/-- The commit at the end of a cycle: what the host owns from the host's half `h`, everything else from the
renderer's half `r` (spec/60_exceptions.md R259, R264: the write sets are disjoint; log 22). -/
def commit (h r : State) : State :=
  { r with
    fontBase := h.fontBase
    ramtBase := h.ramtBase
    hFine := h.hFine
    vFine := h.vFine
    hTrim := h.hTrim
    vTrim := h.vTrim
    screen := h.screen
    ramt := h.ramt
    hRdata := h.hRdata
    hostDraws := h.hostDraws }

/-- The answers of both halves as one: a next state when both have one, else the first reason to stop. -/
def joinHalves (h r : Host.Outcome State Fault Refusal) : Host.Outcome State Fault Refusal :=
  match h with
  | .next h' =>
    match r with
    | .next r' => .next (commit h' r')
    | .fault f => .fault f
    | .refused q => .refused q
  | .fault f => .fault f
  | .refused q => .refused q

/-- One clock cycle with the pins `p`, from the start-of-cycle state `s` (spec/30_encoding.md R91,
spec/60_exceptions.md R259): RESET alone when `rst` = 1; otherwise the host's operation and the renderer, in
parallel on `s`. -/
def clockCycle (p : Input) (s : State) : Host.Outcome State Fault Refusal :=
  match decodePin p.rst with
  | some i => exec i s
  | none => joinHalves (exec (decodeHb p.hb) s) (rendererCycle s)

/-- One step of VSG: one clock cycle. An ill-formed configuration is refused (spec/00_scope.md R11). -/
def cycleStep (s : State) : Host.Outcome State Fault Refusal :=
  if s.cfg.wellFormed then clockCycle s.pins s.popInput else .refused .illFormedConfig

/-! ## Placing a word -/

/-- The pins that put a word of format PIN or HB before VSG; for format SEQ the host is idle. -/
def OpWordPins : OpWord → Input
  | .pin w => ⟨w, 0⟩
  | .seq _ => Input.idle
  | .hb w => ⟨0, w⟩

/-- Place an operation word where the very next step finds it (log 14). PIN and HB: on the pins of the next cycle.
SEQ: the selector is read at a tick, so the next cycle is made the last of its period, and `handler` and `VARIANT`
are made what the word says. -/
def State.place (s : State) (o : OpWord) : State :=
  let s := { s with inputs := OpWordPins o :: s.inputs.tail }
  match o with
  | .pin _ => s
  | .hb _ => s
  | .seq w =>
    { s with
      hcount := BitVec.ofNat 16 (s.cfg.hCycles - 1)
      handler := if w.extractLsb' 2 1 = 0 then .inactive else .kernel
      cfg := { s.cfg with variant := Variant.ofCode (w.extractLsb' 0 2) } }

/-- Place the word of a row of spec/opcode_table.json; bits that are no word place nothing. -/
def State.placeTableWord (s : State) (nbits w : Nat) : State :=
  match tableOpWord nbits w with
  | some o => s.place o
  | none => s

end Sys2Proof.Machine
end

