-- ==== Sys2Proof/Machine/Step.lean ====
section
/-! DEFINITION. The step of VSG and the host's way to place an instruction. Both only call Machine/Cycle.lean. -/

namespace Sys2Proof.Machine

/-- One step: one clock cycle (spec/00_scope.md R6; log 23). -/
def step : State → Host.Outcome State Fault Refusal := cycleStep

/-- `s` with the word `w` of `nbits` bits placed so that the next step runs it (log 14). -/
def State.withFetchWord (s : State) (nbits w : Nat) : State := s.placeTableWord nbits w

end Sys2Proof.Machine
end

