-- ==== Sys2Proof/Machine/Outputs.lean ====
section
/-! DEFINITION. The outputs of a cycle as functions of the state at its start (spec/10_state.md R20, R47,
spec/40_scanline_timer_sync.md R124, R125, spec/70_reset_and_hazards.md R281). -/

namespace Sys2Proof.Machine

/-- `sync`: 0 during the pulse at the start of the period, 1 otherwise (spec/40_scanline_timer_sync.md R124). -/
def syncOut (s : State) : Bool :=
  decide ((match s.swActive with
    | .h => s.cfg.hsyncW
    | .v => s.cfg.vsyncW) ≤ s.hcount.toNat)

/-- The value of slot `n` when `cur` holds the byte of its column (spec/42_pixel_kernels.md R170). -/
def State.slotValue (s : State) (n : Nat) : Bool :=
  visible s.cfg s.lh (n / s.cfg.ppt) (n % s.cfg.ppt) && pixelBit s.cfg s.cur (n % s.cfg.ppt)

/-- `video`: the slot value between `x0` and `x_end` of a rendered line, else 0
(spec/40_scanline_timer_sync.md R125). -/
def videoOut (s : State) : Bool :=
  s.rendering && decide (s.x0 ≤ s.hcount.toNat ∧ (s.hcount.toNat : Int) < s.xEnd) &&
    s.slotValue ((s.hcount.toNat - s.x0).toNat / s.cfg.cpp)

/-- `line_irq` = `irq_q` in every cycle, the cycle of a reset included: "the outputs are functions of state at all
times" (spec/70_reset_and_hazards.md R281, spec/10_state.md R47, spec/60_exceptions.md R256; log 12). -/
def lineIrqOut (s : State) : Bool := s.irqQ

/-- `eod` = `eod_q` in every cycle (spec/10_state.md R47, spec/60_exceptions.md R257, spec/70_reset_and_hazards.md
R281). -/
def eodOut (s : State) : Bool := s.eodQ

end Sys2Proof.Machine
end

