-- ==== Sys2Proof/Machine/Pseudo.lean ====
section
/-! DEFINITION. The pseudo-operations of the trace notation (spec/30_encoding.md R108) and the host's frame wait
(spec/44_frame_ready_sync.md R243). They are sequences of host operations and no part of VSG. -/

namespace Sys2Proof.Machine

/-- The word that the host drives for an operation; an operation of another format leaves it idle. -/
def hostWordOf (i : Instr) : HbWord :=
  match encode i with
  | .hb w => w
  | .pin _ => 0
  | .seq _ => 0

/-- The pins of one host operation with `rst` = 0. -/
def hostPins (i : Instr) : Input := ⟨0, hostWordOf i⟩

/-- `WR16 FONT, w` (spec/30_encoding.md R108). -/
def wr16Font (w : Addr) : List Input := [hostPins (.wrFontLo (loByte w)), hostPins (.wrFontHi (hiByte w))]

/-- `WR16 RAMT, w` (spec/30_encoding.md R108). -/
def wr16Ramt (w : Addr) : List Input := [hostPins (.wrRamtLo (loByte w)), hostPins (.wrRamtHi (hiByte w))]

/-- `LINE`: NOPs up to and including the last cycle of the current period (spec/30_encoding.md R108). -/
def lineNops (s : State) : List Input := List.replicate (s.cfg.hCycles - s.hcount.toNat) Input.idle

/-- `LINES n`: `LINE` n times (spec/30_encoding.md R108). -/
def linesNops (s : State) : Nat → List Input
  | 0 => []
  | n + 1 => lineNops s ++ List.replicate (n * s.cfg.hCycles) Input.idle

/-- The state with the pins of the next cycles set. -/
def State.withInputs (s : State) (ps : List Input) : State := { s with inputs := ps }

/-- Run `k` cycles with the inputs the state holds, stopping at the first stop. -/
def runCycles : Nat → State → Host.Outcome State Fault Refusal
  | 0, s => .next s
  | k + 1, s => match step s with
    | .next t => runCycles k t
    | .fault f => .fault f
    | .refused r => .refused r

/-- The state with the host's operation `i` on the bus of the coming cycle. The `rst` pin of that cycle and the
cycles after it are as they were: the host sequence drives the bus and not `rst` (log 20). -/
def State.issue (s : State) (i : Instr) : State := s.withInputs (⟨s.pins.rst, hostWordOf i⟩ :: s.inputs.tail)

/-- One cycle in which the host issues `i`, whatever `rst` is. -/
def hostCycle (i : Instr) (s : State) : Host.Outcome State Fault Refusal := step (s.issue i)

/-- The host issues these operations, one in each cycle, whatever `rst` is. -/
def runHost : List Instr → State → Host.Outcome State Fault Refusal
  | [], s => .next s
  | i :: is, s => match hostCycle i s with
    | .next t => runHost is t
    | .fault f => .fault f
    | .refused r => .refused r

/-- How many display ends these cycles commit, each one cycle of `eod` (spec/44_frame_ready_sync.md R240, R241). -/
def displayEnds : List Instr → State → Nat
  | [], _ => 0
  | i :: is, s => match hostCycle i s with
    | .next t => (if eodOut t then 1 else 0) + displayEnds is t
    | .fault _ => 0
    | .refused _ => 0

/-- How a host sequence that waits ends: it returns, it is still waiting when the given number of rounds is used
up, or VSG stops (log 20). -/
inductive Wait where
  | returned (s : State)
  | waiting (s : State)
  | stopped
  deriving DecidableEq, Repr

/-- `WFI`: NOPs up to and including the first cycle, at or after the current one, in which `line_irq` = 1, for at
most `fuel` cycles (spec/30_encoding.md R108). -/
def wfi : Nat → State → Wait
  | 0, s => .waiting s
  | fuel + 1, s => match hostCycle .nop s with
    | .next t => if lineIrqOut s then .returned t else wfi fuel t
    | .fault _ => .stopped
    | .refused _ => .stopped

/-- The loop of WAITEND with the start value `start`: poll FRAME_LO, return when `(f - s) mod 256 ≥ n`, else WFI
(spec/44_frame_ready_sync.md R243). At most `fuel` polls, each WFI of at most `bound` cycles. Nothing else ends it
(R249). -/
def waitLoop (bound : Nat) (start n : Byte) : Nat → State → Wait
  | 0, s => .waiting s
  | fuel + 1, s => match hostCycle .rdFrameLo s with
    | .next t =>
      if n.toNat ≤ (t.hRdata - start).toNat then .returned t
      else match wfi bound t with
        | .returned u => waitLoop bound start n fuel u
        | .waiting u => .waiting u
        | .stopped => .stopped
    | .fault _ => .stopped
    | .refused _ => .stopped

/-- `WAITEND n`, with at most `fuel` polls in its loop and at most `bound` cycles in each WFI
(spec/44_frame_ready_sync.md R243). -/
def waitEnd (bound fuel : Nat) (n : Byte) (s : State) : Wait :=
  match hostCycle .rdFrameLo s with
  | .next t => waitLoop bound t.hRdata n fuel t
  | .fault _ => .stopped
  | .refused _ => .stopped

end Sys2Proof.Machine
end

