-- ==== Sys2Proof/Machine/Record.lean ====
section
/-! DEFINITION. The per-period record of spec/40_scanline_timer_sync.md R130 and the picture of a rendered line, each
memory byte taken as it stands at its fetch cycle (spec/42_pixel_kernels.md R176 to R180). -/

namespace Sys2Proof.Machine

/-- The state `n` cycles on, under the inputs that `s` holds; where VSG stops before, `s`. -/
def State.after (s : State) (n : Nat) : State :=
  match runCycles n s with
  | .next t => t
  | .fault _ => s
  | .refused _ => s

/-- The cycle of the period in which the cell of column `col` is read, `g(c) - 2` (spec/42_pixel_kernels.md R166). -/
def State.cellCycle (s : State) (col : Nat) : Nat := (s.x0 - 2 + col * s.cfg.colCycles).toNat

/-- The cycle in which the bitmap byte of column `col` is read, `g(c) - 1` (spec/42_pixel_kernels.md R166). -/
def State.tileCycle (s : State) (col : Nat) : Nat := (s.x0 - 1 + col * s.cfg.colCycles).toNat

/-- The cell of column `col` of the line whose period starts in `s`: the SCREEN byte "as it stands at its fetch
cycle", whatever the host has written by then, or the byte drawn in that cycle (spec/42_pixel_kernels.md R163, R180,
spec/20_memory.md R73). -/
def State.pictureCell (s : State) (col : Nat) : Byte :=
  (s.after (s.cellCycle col)).memRead .screen (s.scrAddr col)
    (Config.rendererUnpopulated (s.after (s.cellCycle col)).rendDraws)

/-- The bitmap byte of column `col`, as it stands at its own fetch cycle (spec/42_pixel_kernels.md R164, R165,
R180). -/
def State.pictureByte (s : State) (col : Nat) : Byte :=
  (s.after (s.tileCycle col)).memRead (bankOf s.cfg (s.pictureCell col)) (s.cellAddr (s.pictureCell col))
    (Config.rendererUnpopulated (s.after (s.tileCycle col)).rendDraws)

/-- Slot `n` of the line being rendered, in closed form (spec/42_pixel_kernels.md R170, R176 to R180). -/
def State.pictureSlot (s : State) (n : Nat) : Bool :=
  visible s.cfg s.lh (n / s.cfg.ppt) (n % s.cfg.ppt) &&
    pixelBit s.cfg (s.pictureByte (n / s.cfg.ppt)) (n % s.cfg.ppt)

/-- The `SLOTS` slot values of the line being rendered, in order. -/
def State.picture (s : State) : List Bool := (List.range s.cfg.slots).map s.pictureSlot

/-- What VSG emits in one period: the line number, the pulse width, the start cycle and slots of a rendered line,
and whether `eod` fires (spec/40_scanline_timer_sync.md R130). -/
structure LineRec where
  line : BitVec 16
  pulse : SyncWidth
  pix : Option (Int × List Bool)
  eod : Bool
  deriving DecidableEq, Repr

/-- The record of the period whose cycle 0 starts in `s`, under the inputs that `s` holds
(spec/40_scanline_timer_sync.md R130). A period that a reset cuts short emits the waveforms up to the cycle of the
reset, and `eod` does not fire in it unless K.end came before. -/
def State.lineRec (s : State) : LineRec where
  line := s.lineNumber
  pulse := s.swActive
  pix := if s.rendering then some (s.x0, s.picture) else none
  eod := s.rendering && s.atLastLine && (s.inputs.take s.xEnd.toNat).all (fun p => decide (p.rst = 0))

/-- The `video` waveform of a record (spec/40_scanline_timer_sync.md R130). -/
def LineRec.video (r : LineRec) (c : Cfg) (cycle : Nat) : Bool :=
  match r.pix with
  | none => false
  | some (x0, slots) =>
    if x0 ≤ cycle ∧ (cycle : Int) < x0 + slots.length * c.cpp then
      slots.getD ((cycle - x0).toNat / c.cpp) false
    else false

/-- The `sync` waveform of a record (spec/40_scanline_timer_sync.md R130). -/
def LineRec.sync (r : LineRec) (c : Cfg) (cycle : Nat) : Bool :=
  match r.pulse with
  | .h => decide (c.hsyncW ≤ cycle)
  | .v => decide (c.vsyncW ≤ cycle)

end Sys2Proof.Machine
end

