-- ==== Sys2Proof/Safety.lean ====
section
/-! DEFINITION. The terms in which claims about VSG are stated: who owns which state (spec/60_exceptions.md R264),
the invariant of a running VSG (spec/10_state.md R49), and what a safe run is. -/

namespace Sys2Proof.Machine

/-! ## Frames -/

/-- Every register of the renderer is the same (the renderer's rows of spec/60_exceptions.md R264). -/
def SameRenderer (s t : State) : Prop :=
  t.hcount = s.hcount ∧ t.lineNumber = s.lineNumber ∧ t.handler = s.handler ∧ t.swPending = s.swPending ∧
  t.swActive = s.swActive ∧ t.frameCount = s.frameCount ∧ t.tileRowOffset = s.tileRowOffset ∧
  t.rowPtr = s.rowPtr ∧ t.vTrimL = s.vTrimL ∧ t.lh = s.lh ∧ t.ltrim = s.ltrim ∧ t.lfont = s.lfont ∧
  t.lram = s.lram ∧ t.rendering = s.rendering ∧ t.cell = s.cell ∧ t.cur = s.cur ∧ t.irqQ = s.irqQ ∧
  t.eodQ = s.eodQ

/-- Every host-programmable register is the same. -/
def SameHostRegs (s t : State) : Prop :=
  t.fontBase = s.fontBase ∧ t.ramtBase = s.ramtBase ∧ t.hFine = s.hFine ∧ t.vFine = s.vFine ∧
  t.hTrim = s.hTrim ∧ t.vTrim = s.vTrim

/-- Every byte of the space reads the same, except possibly the one at `a` when `written` holds. -/
def SameBytesBut (s t : State) (sp : Space) (written : Prop) (a : Addr) : Prop :=
  ∀ b : Addr, (written → b ≠ a) → t.stored sp b = s.stored sp b

/-- Every byte of SCREEN and of RAMT reads the same. -/
def SameMemory (s t : State) : Prop :=
  ∀ b : Addr, t.stored .screen b = s.stored .screen b ∧ t.stored .ramt b = s.stored .ramt b

/-- Every register holds the value of spec/10_state.md R48. -/
def AtResetValues (t : State) : Prop :=
  t.hcount = 0 ∧ t.lineNumber = 0 ∧ t.handler = .inactive ∧ t.swPending = .h ∧ t.swActive = .h ∧
  t.frameCount = 0 ∧ t.tileRowOffset = 0 ∧ t.rowPtr = 0 ∧ t.fontBase = 0 ∧ t.ramtBase = 0 ∧ t.hFine = 0 ∧
  t.vFine = 0 ∧ t.hTrim = 0 ∧ t.vTrim = 0 ∧ t.vTrimL = 0 ∧ t.lh = 0 ∧ t.ltrim = 0 ∧ t.lfont = 0 ∧
  t.lram = 0 ∧ t.rendering = false ∧ t.cell = 0 ∧ t.cur = 0 ∧ t.irqQ = false ∧ t.eodQ = false

/-! ## The invariant -/

/-- How many lines of the active region have been completed in this frame: lines `AS_eff + 1`, ... are rendered
(spec/41_line_state_machine.md R150), and the one in progress does not count. -/
def State.linesDone (s : State) : Nat :=
  ((s.lineNumber.toNat : Int) - s.asEff - (if s.rendering then 1 else 0)).toNat

/-- The row registers stand where `j` completed lines after a setup with `tile_row_offset` = `v0` leave them
(spec/42_pixel_kernels.md R173). -/
def State.rowsAfter (s : State) (v0 j : Nat) : Prop :=
  s.tileRowOffset.toNat = (v0 + j) % s.cfg.tileH ∧ s.rowPtr.toNat = s.cfg.bufCols * ((v0 + j) / s.cfg.tileH)

/-- The invariant of a running VSG: spec/10_state.md R49 with what is needed to make it inductive. -/
structure Inv (s : State) : Prop where
  /-- R11 -/
  cfgOk : s.cfg.wellFormed = true
  /-- R22 -/
  hcountLt : s.hcount.toNat < s.cfg.hCycles
  /-- R49 (a) -/
  lineLt : s.lineNumber.toNat < s.cfg.linesPerFrame
  /-- R49 (b) -/
  tileRowLt : s.tileRowOffset.toNat < s.cfg.tileH
  /-- R149: the trim in force keeps the contract. -/
  trimKept : (s.cfg.vsyncEnd : Int) < s.asEff ∧ s.aeEff < s.cfg.linesPerFrame
  /-- R43, R44 -/
  trimOff : s.cfg.trimEn = false → s.vTrimL = 0 ∧ s.ltrim = 0
  /-- R43 -/
  scrollOff : s.cfg.hasHScroll = false → s.lh = 0
  /-- R49 (d), in every cycle in which no line is in progress -/
  idleHandler : s.rendering = false → (s.handler = .kernel ↔ s.region = .active)
  /-- R49 (c), R150 -/
  busyHandler : s.rendering = true →
    s.handler = .kernel ∧ s.asEff < s.lineNumber.toNat ∧ (s.lineNumber.toNat : Int) ≤ s.aeEff
  /-- R123, R172 -/
  busyFits : s.rendering = true → s.cfg.lineFits s.ltrim s.lh = true ∧ (s.hcount.toNat : Int) < s.xEnd
  /-- R173, R180 -/
  rows : s.handler = .kernel → ∃ v0, v0 ≤ s.cfg.vMax ∧ s.rowsAfter v0 s.linesDone
  /-- R126: a vertical width is programmed only before the vsync-end line -/
  pendingV : s.swPending = .v → s.lineNumber.toNat < s.cfg.vsyncEnd
  /-- R126: a vertical width is emitted only on lines 1 to `VSYNC_END` -/
  activeV : s.swActive = .v → 1 ≤ s.lineNumber.toNat ∧ s.lineNumber.toNat ≤ s.cfg.vsyncEnd
  /-- R256, R257: a strobe is 1 in cycle 0 or in cycle `x_end` only, `eod` in the latter only -/
  strobes : (s.eodQ = true → s.irqQ = true ∧ 0 < s.hcount.toNat) ∧
    (s.irqQ = true → s.rendering = false ∧ (s.hcount.toNat = 0 ∨ (s.hcount.toNat : Int) = s.xEnd))
  /-- The canonical form of SCREEN, inside its populated range (log 6). -/
  screenWf : Memory.wf s.cfg.screenBytes s.screen = true
  /-- The canonical form of RAMT, inside its populated range (log 6). -/
  ramtWf : Memory.wf (if s.cfg.hasRam then s.cfg.ramBytes else 0) s.ramt = true

/-! ## Safe runs -/

/-- The host keeps the trim contract now (spec/43_display_config_ops.md R217). -/
def TrimsKept (s : State) : Prop := s.cfg.hTrimOk s.hTrim = true ∧ s.cfg.vTrimOk s.vTrim = true

/-- `s` is reached from the reset state of an instance with configuration `c` by some host: any sequence of pins
(log 3). -/
def Reachable (c : Cfg) (s : State) : Prop :=
  ∃ ps n, runCycles n ((State.resetOf c).withInputs ps) = .next s

end Sys2Proof.Machine
end

