-- ==== Sys2Proof/Certificates/Slice0/Obligations.lean ====
section
/-! DEFINITION. The statements for the provers. Each docstring names the rules of spec/ that it formalises. The fields
`inputs`, `hRdata`, `hostDraws` and `rendDraws` are the model's own (log 3, 4, 7): where a statement names them it
says how the model records the pins and the free values, which no rule numbers. -/

section

open Sys2Proof Sys2Proof.Machine

/-! ## Reset -/

/-- R280: every register takes its reset value, SCREEN and RAMT are not written, `h_rdata` is 0x00. -/
def Obligations.ResetGivesResetValues : Prop :=
  ∀ s : State, ∃ t, exec .reset s = .next t ∧ AtResetValues t ∧ SameMemory s t ∧ t.hRdata = 0 ∧ t.cfg = s.cfg

/-- R280: a cycle with `rst` = 1 is RESET alone, whatever the HB word, the counter and the line in progress. -/
def Obligations.ResetPreemptsEverything : Prop :=
  ∀ (s : State) (w : HbWord), s.cfg.wellFormed = true → s.pins = ⟨1, w⟩ →
    ∃ t, step s = .next t ∧ AtResetValues t ∧ SameMemory s t ∧ t.hRdata = 0 ∧ t.cfg = s.cfg

/-- R48, for every content of SCREEN and RAMT: the state after reset, its derived values, the bytes of `Cfg.ROM` and
the outputs. -/
def Obligations.ResetStateValues : Prop :=
  ∀ (c : Cfg) (scr ram : Memory), c.wellFormed = true →
    AtResetValues { State.resetOf c with screen := scr, ramt := ram } ∧
    ({ State.resetOf c with screen := scr, ramt := ram } : State).region = .preSync ∧
    maskOf (State.resetOf c).hFine = 0xFF ∧
    (∀ (a : Addr) (b : Byte), c.rom[a.toNat]? = some b →
      ({ State.resetOf c with screen := scr, ramt := ram } : State).stored .rom a = b) ∧
    videoOut { State.resetOf c with screen := scr, ramt := ram } = false ∧
    syncOut { State.resetOf c with screen := scr, ramt := ram } = false ∧
    lineIrqOut { State.resetOf c with screen := scr, ramt := ram } = false ∧
    eodOut { State.resetOf c with screen := scr, ramt := ram } = false

/-! ## Host register writes -/

/-- R202 to R205: each half of the two pointers is written alone, by the word of its encoding. -/
def Obligations.PointerWritesReplaceOneHalf : Prop :=
  ∀ (s : State) (d : Byte),
    decode (.hb ((0x40000 : BitVec 20) ++ d)) = .ok (.wrFontLo d) ∧
    exec (.wrFontLo d) s = .next { s with fontBase := s.fontBase.extractLsb' 8 8 ++ d, hRdata := 0 } ∧
    decode (.hb ((0x40001 : BitVec 20) ++ d)) = .ok (.wrFontHi d) ∧
    exec (.wrFontHi d) s = .next { s with fontBase := d ++ s.fontBase.extractLsb' 0 8, hRdata := 0 } ∧
    decode (.hb ((0x40002 : BitVec 20) ++ d)) = .ok (.wrRamtLo d) ∧
    exec (.wrRamtLo d) s = .next { s with ramtBase := s.ramtBase.extractLsb' 8 8 ++ d, hRdata := 0 } ∧
    decode (.hb ((0x40003 : BitVec 20) ++ d)) = .ok (.wrRamtHi d) ∧
    exec (.wrRamtHi d) s = .next { s with ramtBase := d ++ s.ramtBase.extractLsb' 0 8, hRdata := 0 }

/-- R206, R208: a scroll register stores `dd[2:0]`; H_MASK follows as `0xFF >> dd[2:0]`: it is what RD.H_MASK reads
after the write. -/
def Obligations.ScrollWritesKeepThreeBits : Prop :=
  ∀ (s : State) (d : Byte),
    decode (.hb ((0x40004 : BitVec 20) ++ d)) = .ok (.wrHScroll d) ∧
    exec (.wrHScroll d) s = .next { s with hFine := d.extractLsb' 0 3, hRdata := 0 } ∧
    exec .rdHMask { s with hFine := d.extractLsb' 0 3, hRdata := 0 } =
      .next { s with hFine := d.extractLsb' 0 3, hRdata := (0xFF : Byte) >>> (d.toNat % 8) } ∧
    decode (.hb ((0x40006 : BitVec 20) ++ d)) = .ok (.wrVScroll d) ∧
    exec (.wrVScroll d) s = .next { s with vFine := d.extractLsb' 0 3, hRdata := 0 }

/-- R209, R210: a trim register stores the byte; `v_trim_l` does not change. -/
def Obligations.TrimWritesStoreTheByte : Prop :=
  ∀ (s : State) (d : Byte),
    decode (.hb ((0x40007 : BitVec 20) ++ d)) = .ok (.wrHTrim d) ∧
    exec (.wrHTrim d) s = .next { s with hTrim := d, hRdata := 0 } ∧
    decode (.hb ((0x40008 : BitVec 20) ++ d)) = .ok (.wrVTrim d) ∧
    exec (.wrVTrim d) s = .next { s with vTrim := d, hRdata := 0 }

/-- R207, R211 to R214: a write of a read-only or reserved register changes no state. -/
def Obligations.ReadOnlyWritesAreIgnored : Prop :=
  ∀ (s : State) (a : Addr) (d : Byte),
    decode (.hb ((0x40005 : BitVec 20) ++ d)) = .ok (.wrHMask d) ∧
    exec (.wrHMask d) s = .next { s with hRdata := 0 } ∧
    decode (.hb ((0x40009 : BitVec 20) ++ d)) = .ok (.wrFrameLo d) ∧
    exec (.wrFrameLo d) s = .next { s with hRdata := 0 } ∧
    decode (.hb ((0x4000A : BitVec 20) ++ d)) = .ok (.wrFrameHi d) ∧
    exec (.wrFrameHi d) s = .next { s with hRdata := 0 } ∧
    decode (.hb ((0x4000B : BitVec 20) ++ d)) = .ok (.wrConfig d) ∧
    exec (.wrConfig d) s = .next { s with hRdata := 0 } ∧
    (0x000B < a.toNat → decode (.hb ((0x4 : BitVec 4) ++ a ++ d)) = .ok (.wrRsvd a d)) ∧
    exec (.wrRsvd a d) s = .next { s with hRdata := 0 }

/-! ## Host register reads -/

/-- R218 to R221: the halves of the two pointers, whatever the write data; no state changes. -/
def Obligations.PointerReadsGiveTheHalves : Prop :=
  ∀ (s : State) (x : Byte),
    decode (.hb ((0x80000 : BitVec 20) ++ x)) = .ok .rdFontLo ∧
    exec .rdFontLo s = .next { s with hRdata := s.fontBase.extractLsb' 0 8 } ∧
    decode (.hb ((0x80001 : BitVec 20) ++ x)) = .ok .rdFontHi ∧
    exec .rdFontHi s = .next { s with hRdata := s.fontBase.extractLsb' 8 8 } ∧
    decode (.hb ((0x80002 : BitVec 20) ++ x)) = .ok .rdRamtLo ∧
    exec .rdRamtLo s = .next { s with hRdata := s.ramtBase.extractLsb' 0 8 } ∧
    decode (.hb ((0x80003 : BitVec 20) ++ x)) = .ok .rdRamtHi ∧
    exec .rdRamtHi s = .next { s with hRdata := s.ramtBase.extractLsb' 8 8 }

/-- R222 to R224: the scroll values with bits [7:3] 0, and the derived mask. -/
def Obligations.ScrollReadsGiveValueAndMask : Prop :=
  ∀ (s : State) (x : Byte), ∃ b m v : Byte,
    decode (.hb ((0x80004 : BitVec 20) ++ x)) = .ok .rdHScroll ∧
    exec .rdHScroll s = .next { s with hRdata := b } ∧ b.toNat = s.hFine.toNat ∧
    decode (.hb ((0x80005 : BitVec 20) ++ x)) = .ok .rdHMask ∧
    exec .rdHMask s = .next { s with hRdata := m } ∧ m.toNat = 255 / 2 ^ s.hFine.toNat ∧
    decode (.hb ((0x80006 : BitVec 20) ++ x)) = .ok .rdVScroll ∧
    exec .rdVScroll s = .next { s with hRdata := v } ∧ v.toNat = s.vFine.toNat

/-- R225, R226: the stored trim bytes, whatever `TRIM_EN`, and not the latched one. -/
def Obligations.TrimReadsGiveTheStoredByte : Prop :=
  ∀ (s : State) (x : Byte),
    decode (.hb ((0x80007 : BitVec 20) ++ x)) = .ok .rdHTrim ∧
    exec .rdHTrim s = .next { s with hRdata := s.hTrim } ∧
    decode (.hb ((0x80008 : BitVec 20) ++ x)) = .ok .rdVTrim ∧
    exec .rdVTrim s = .next { s with hRdata := s.vTrim }

/-- R227, R228: the two bytes of the frame counter; reading clears and latches nothing. -/
def Obligations.FrameReadsGiveTheCounter : Prop :=
  ∀ (s : State) (x : Byte), ∃ lo hi : Byte,
    decode (.hb ((0x80009 : BitVec 20) ++ x)) = .ok .rdFrameLo ∧
    exec .rdFrameLo s = .next { s with hRdata := lo } ∧
    decode (.hb ((0x8000A : BitVec 20) ++ x)) = .ok .rdFrameHi ∧
    exec .rdFrameHi s = .next { s with hRdata := hi } ∧
    s.frameCount.toNat = 256 * hi.toNat + lo.toNat

/-- R40, R229: every bit of CONFIG; reading changes no state. -/
def Obligations.ConfigReadGivesTheOptions : Prop :=
  ∀ (s : State) (x : Byte), ∃ b : Byte,
    decode (.hb ((0x8000B : BitVec 20) ++ x)) = .ok .rdConfig ∧
    exec .rdConfig s = .next { s with hRdata := b } ∧
    b.extractLsb' 0 2 = (match s.cfg.variant with
      | .k6 => 0
      | .k8 => 1
      | .k8r => 2
      | .k8rs => 3) ∧
    b.getLsbD 2 = decide (s.cfg.cpp = 4) ∧ b.getLsbD 3 = s.cfg.msbFirst ∧ b.getLsbD 4 = s.cfg.vscrollEn ∧
    b.getLsbD 5 = s.cfg.trimEn ∧ b.getLsbD 6 = decide (s.cfg.tileLayout = .rowMajor) ∧
    b.getLsbD 7 = decide (s.cfg.standard = .pal)

/-- R201, R230, R235 to R237: NOP and the reserved forms, with any value of their other bits, change no state and
read 0x00. -/
def Obligations.ReservedFormsDoNothing : Prop :=
  ∀ (s : State) (a : Addr) (x : Byte) (y : BitVec 24) (z : BitVec 26),
    decode (.hb ((0 : BitVec 2) ++ z)) = .ok .nop ∧
    exec .nop s = .next { s with hRdata := 0 } ∧
    (0x000B < a.toNat → decode (.hb ((0x8 : BitVec 4) ++ a ++ x)) = .ok (.rdRsvd a)) ∧
    exec (.rdRsvd a) s = .next { s with hRdata := 0 } ∧
    decode (.hb ((0x7 : BitVec 4) ++ y)) = .ok .wrSel3 ∧
    exec .wrSel3 s = .next { s with hRdata := 0 } ∧
    decode (.hb ((0xB : BitVec 4) ++ y)) = .ok .rdSel3 ∧
    exec .rdSel3 s = .next { s with hRdata := 0 } ∧
    decode (.hb ((3 : BitVec 2) ++ z)) = .ok .both ∧
    exec .both s = .next { s with hRdata := 0 }

/-! ## Host memory operations -/

/-- R231: WRS writes SCREEN[a] below `SCREEN_BYTES` and nothing at or above it; every other byte of SCREEN, all of
RAMT and every register stay. -/
def Obligations.ScreenWriteStoresOneByte : Prop :=
  ∀ (s : State) (a : Addr) (d : Byte), decode (.hb ((0x5 : BitVec 4) ++ a ++ d)) = .ok (.wrs a d) ∧
    ∃ t, exec (.wrs a d) s = .next t ∧
      (a.toNat < s.cfg.screenBytes → t.stored .screen a = d) ∧
      SameBytesBut s t .screen (a.toNat < s.cfg.screenBytes) a ∧
      t = { s with screen := t.screen, hRdata := 0 }

/-- R232: RDS reads SCREEN[a]; at or above `SCREEN_BYTES` it reads some byte; no state of VSG changes (the draw
counter `hostDraws` is the model's own, log 7: nothing is said of its value). -/
def Obligations.ScreenReadGivesTheByte : Prop :=
  ∀ (s : State) (a : Addr) (x : Byte), ∃ (b : Byte) (n : Nat),
    decode (.hb ((0x9 : BitVec 4) ++ a ++ x)) = .ok (.rds a) ∧
    exec (.rds a) s = .next { s with hRdata := b, hostDraws := n } ∧
    (a.toNat < s.cfg.screenBytes → b = s.stored .screen a)

/-- R233: WRT writes RAMT[a] with RAM tiles and below `RAM_BYTES`, and nothing otherwise; every other byte of RAMT,
all of SCREEN and every register stay. -/
def Obligations.TileRamWriteStoresOneByte : Prop :=
  ∀ (s : State) (a : Addr) (d : Byte), decode (.hb ((0x6 : BitVec 4) ++ a ++ d)) = .ok (.wrt a d) ∧
    ∃ t, exec (.wrt a d) s = .next t ∧
      (s.cfg.hasRam = true ∧ a.toNat < s.cfg.ramBytes → t.stored .ramt a = d) ∧
      SameBytesBut s t .ramt (s.cfg.hasRam = true ∧ a.toNat < s.cfg.ramBytes) a ∧
      t = { s with ramt := t.ramt, hRdata := 0 }

/-- R234: RDT reads RAMT[a]; without RAM tiles, or at or above `RAM_BYTES`, it reads some byte; no state of VSG
changes (the draw counter `hostDraws` is the model's own, log 7: nothing is said of its value). -/
def Obligations.TileRamReadGivesTheByte : Prop :=
  ∀ (s : State) (a : Addr) (x : Byte), ∃ (b : Byte) (n : Nat),
    decode (.hb ((0xA : BitVec 4) ++ a ++ x)) = .ok (.rdt a) ∧
    exec (.rdt a) s = .next { s with hRdata := b, hostDraws := n } ∧
    (s.cfg.hasRam = true ∧ a.toNat < s.cfg.ramBytes → b = s.stored .ramt a)

/-! ## Line operations -/

/-- R141 to R143, R145: LINE.INACTIVE, for every state but a wrap that would latch a vertical trim outside the trim
contract (the next statement). -/
def Obligations.LineInactiveCountsAndSwitches : Prop :=
  ∀ s : State,
    ((s.lineNumber + 1).toNat = s.cfg.linesPerFrame → s.cfg.vTrimOk s.vTrim = true) →
    exec .lineInactive s = .next
      (if (s.lineNumber + 1).toNat = s.cfg.linesPerFrame then
        { s with
          lineNumber := 0
          swPending := .v
          vTrimL := if s.cfg.trimEn then s.vTrim else 0
          irqQ := true }
      else if (s.lineNumber + 1).toNat = s.cfg.vsyncEnd then
        { s with lineNumber := s.lineNumber + 1, swPending := .h, irqQ := true }
      else if ((s.lineNumber + 1).toNat : Int) = s.cfg.activeStart + s.vTrimL.toInt then
        { s with
          lineNumber := s.lineNumber + 1
          handler := .kernel
          tileRowOffset := if s.cfg.vscrollEn then s.vFine.setWidth 8 else 0
          rowPtr := 0
          irqQ := true }
      else { s with lineNumber := s.lineNumber + 1, irqQ := true })

/-- R217 and 93 U3: a wrap that would latch a vertical trim outside the trim contract is refused (log 10). -/
def Obligations.WrapRefusesTrimOutsideContract : Prop :=
  ∀ s : State, (s.lineNumber + 1).toNat = s.cfg.linesPerFrame → s.cfg.trimEn = true →
    ¬ ((s.cfg.vsyncEnd : Int) < s.cfg.activeStart + s.vTrim.toInt ∧
       (s.cfg.activeEnd : Int) + s.vTrim.toInt < s.cfg.linesPerFrame) →
    exec .lineInactive s = .refused .vTrimOutsideContract

/-- R161 and the K.begin lines of R176 to R179: what each kernel operation does at its tick, within the trim
contract; lh is 0 but for LINE.K8RS. -/
def Obligations.KernelOperationsBegin : Prop :=
  ∀ s : State, s.cfg.hTrimOk s.hTrim = true →
    (∀ i ∈ [Instr.lineK6, .lineK8, .lineK8r], exec i s = .next { s with
      lineNumber := s.lineNumber + 1
      rendering := true
      lh := 0
      ltrim := if s.cfg.trimEn then s.hTrim else 0
      lfont := s.fontBase
      lram := s.ramtBase }) ∧
    exec .lineK8rs s = .next { s with
      lineNumber := s.lineNumber + 1
      rendering := true
      lh := s.hFine
      ltrim := if s.cfg.trimEn then s.hTrim else 0
      lfont := s.fontBase
      lram := s.ramtBase }

/-- R217 and 93 U3: a K.begin that would latch a horizontal trim outside the trim contract is refused (log 10). -/
def Obligations.KernelRefusesTrimOutsideContract : Prop :=
  ∀ s : State, s.cfg.trimEn = true →
    ¬ ((s.cfg.hsyncW : Int) ≤ s.cfg.hStart + s.hTrim.toInt - (if s.cfg.hasHScroll then 7 * s.cfg.cpp else 0 : Nat) ∧
       (2 : Int) ≤ s.cfg.hStart + s.hTrim.toInt - (if s.cfg.hasHScroll then 7 * s.cfg.cpp else 0 : Nat) ∧
       (s.cfg.hStart : Int) + s.hTrim.toInt + s.cfg.slots * s.cfg.cpp ≤ s.cfg.hCycles - 2) →
    ∀ i ∈ [Instr.lineK6, .lineK8, .lineK8r, .lineK8rs], exec i s = .refused .hTrimOutsideContract

/-! ## Encodings -/

/-- Every well-formed operation is what its word decodes to (R91 to R93). -/
def Obligations.DecodeEncodeRoundTrip : Prop :=
  ∀ i : Instr, i.wellFormed = true → decode (encode i) = .ok i

/-- R104: the field decoder gives what the first matching row of the ordered table gives. -/
def Obligations.DecoderFollowsOrderedTable : Prop :=
  ∀ w : HbWord, firstRow hbTable w = some (decodeHb w)

/-- R93: the sequencer selector is `handler` above the variant's code of CONFIG, and it starts LINE.INACTIVE or the
kernel of the variant. -/
def Obligations.SelectorNamesTheLineOperation : Prop :=
  (∀ s : State, (s.selector.getLsbD 2 = decide (s.handler = .kernel)) ∧
    s.selector.extractLsb' 0 2 = (configByte s.cfg).extractLsb' 0 2) ∧
  (∀ x : BitVec 2, decode (.seq ((0 : BitVec 1) ++ x)) = .ok .lineInactive) ∧
  decode (.seq 0b100) = .ok .lineK6 ∧ decode (.seq 0b101) = .ok .lineK8 ∧
  decode (.seq 0b110) = .ok .lineK8r ∧ decode (.seq 0b111) = .ok .lineK8rs ∧
  (∀ v : Variant, decode (.seq (Handler.kernel.bit ++ v.code)) = .ok (match v with
    | .k6 => Instr.lineK6
    | .k8 => .lineK8
    | .k8r => .lineK8r
    | .k8rs => .lineK8rs))

/-- The three example words of R107, one word of each reserved kind of 95_test_vectors V53, and the pin. -/
def Obligations.ExampleWordsDecode : Prop :=
  decode (.hb 0x4000403) = .ok (.wrHScroll 3) ∧ decode (.hb 0x8000900) = .ok .rdFrameLo ∧
  decode (.hb 0x5000481) = .ok (.wrs 0x0004 0x81) ∧ decode (.hb 0x3ABCDEF) = .ok .nop ∧
  decode (.hb 0x4010001) = .ok (.wrRsvd 0x0100 0x01) ∧ decode (.hb 0x8000F00) = .ok (.rdRsvd 0x000F) ∧
  decode (.hb 0x7000001) = .ok .wrSel3 ∧ decode (.hb 0xB000000) = .ok .rdSel3 ∧
  decode (.hb 0xD000001) = .ok .both ∧
  decode (.pin 1) = .ok .reset ∧ decode (.pin 0) = .error .pinSelectsNothing

/-- R105, R200: no encoding traps; every HB word selects a well-formed operation, which completes and touches no
register of the renderer. -/
def Obligations.EveryHostWordCompletes : Prop :=
  ∀ (w : HbWord) (s : State), (decodeHb w).wellFormed = true ∧
    ∃ t, exec (decodeHb w) s = .next t ∧ SameRenderer s t ∧ t.cfg = s.cfg ∧ t.inputs = s.inputs

/-! ## The clock cycle -/

/-- A step runs the decoded operation (R66, R91, R121, R259): RESET alone in a cycle with `rst` = 1; otherwise the HB
operation and the renderer's half, both on the state of the start of the cycle, and the step commits SCREEN, RAMT and
the host-writable registers as the operation leaves them and all else as the renderer's half leaves it; and at a tick
with no line in progress the renderer's half is the operation the selector names, after `hcount <- 0` and
`sw_active <- sw_pending`. -/
def Obligations.StepRunsTheDecodedOperation : Prop :=
  ∀ s : State, s.cfg.wellFormed = true →
    (s.pins.rst = 1 → step s = exec .reset s.popInput) ∧
    (∀ i, s.pins.rst = 0 → decode (.hb s.pins.hb) = .ok i →
      ∃ h, exec i s.popInput = .next h ∧
        (∀ r, rendererCycle s.popInput = .next r →
          step s = .next { r with
            screen := h.screen
            ramt := h.ramt
            fontBase := h.fontBase
            ramtBase := h.ramtBase
            hFine := h.hFine
            vFine := h.vFine
            hTrim := h.hTrim
            vTrim := h.vTrim
            hRdata := h.hRdata
            hostDraws := h.hostDraws }) ∧
        (∀ q, rendererCycle s.popInput = .refused q → step s = .refused q)) ∧
    (∀ i, s.rendering = false → s.hcount.toNat + 1 = s.cfg.hCycles → decode (.seq s.selector) = .ok i →
      rendererCycle s.popInput = exec i { s.popInput with
        irqQ := false
        eodQ := false
        hcount := 0
        swActive := s.swPending })

/-- R161 at the level of a cycle: the tick that finds `handler` = Kernel runs K.begin, whatever word the host issues
in that cycle: the copies are the registers as they stand at the start of it. -/
def Obligations.KernelTickLatchesControls : Prop :=
  ∀ s : State, s.cfg.wellFormed = true → s.pins.rst = 0 → s.rendering = false → s.handler = .kernel →
    s.hcount.toNat + 1 = s.cfg.hCycles → s.cfg.hTrimOk s.hTrim = true →
    ∃ t, step s = .next t ∧ t.lineNumber = s.lineNumber + 1 ∧ t.rendering = true ∧
      t.lh = (if s.cfg.hasHScroll then s.hFine else 0) ∧ t.ltrim = (if s.cfg.trimEn then s.hTrim else 0) ∧
      t.lfont = s.fontBase ∧ t.lram = s.ramtBase ∧ t.hcount = 0 ∧ t.swActive = s.swPending ∧
      t.swPending = s.swPending ∧ t.handler = s.handler ∧ t.frameCount = s.frameCount ∧
      t.tileRowOffset = s.tileRowOffset ∧ t.rowPtr = s.rowPtr ∧ t.vTrimL = s.vTrimL ∧ t.cell = s.cell ∧
      t.cur = s.cur ∧ t.irqQ = false ∧ t.eodQ = false

/-- R120: the counter. -/
def Obligations.CounterStepsAndWraps : Prop :=
  ∀ s t : State, s.pins.rst = 0 → step s = .next t →
    t.hcount = if s.hcount.toNat + 1 = s.cfg.hCycles then 0 else s.hcount + 1

/-- R122: the pulse width is double-buffered: `sw_active` takes at a tick what `sw_pending` held before it, and
`sw_pending` is written by the wrap and the vsync-end transition of LINE.INACTIVE only. -/
def Obligations.PulseWidthIsDoubleBuffered : Prop :=
  ∀ s t : State, s.pins.rst = 0 → step s = .next t →
    t.swActive = (if s.hcount.toNat + 1 = s.cfg.hCycles then s.swPending else s.swActive) ∧
    t.swPending =
      (if s.hcount.toNat + 1 = s.cfg.hCycles ∧ s.handler = .inactive then
        (if (s.lineNumber + 1).toNat = s.cfg.linesPerFrame then .v
          else if (s.lineNumber + 1).toNat = s.cfg.vsyncEnd then .h else s.swPending)
      else s.swPending)

/-- R241: `frame_count` steps by one modulo 65536 at K.end of the last rendered line, and at nothing else but
reset. -/
def Obligations.FrameCounterStepsAtDisplayEnd : Prop :=
  ∀ s t : State, s.pins.rst = 0 → step s = .next t →
    t.frameCount.toNat =
      if s.rendering = true ∧ (s.hcount.toNat : Int) + 1 = s.xEnd ∧ (s.lineNumber.toNat : Int) = s.aeEff then
        (s.frameCount.toNat + 1) % 65536
      else s.frameCount.toNat

/-- R47, R256, R257, R281: when the two strobes are raised, and the outputs that show them: they last one cycle. That
`line_irq` shows a strobe in the first cycle of a reset too is the model's reading of R256 beside R281 (log 12,
DEDUCED). -/
def Obligations.StrobesRiseOnCompletionOnly : Prop :=
  ∀ s t : State, step s = .next t →
    (s.pins.rst = 1 → t.irqQ = false ∧ t.eodQ = false) ∧
    (s.pins.rst = 0 →
      (t.irqQ = true ↔
        (s.hcount.toNat + 1 = s.cfg.hCycles ∧ s.handler = .inactive) ∨
        (s.rendering = true ∧ (s.hcount.toNat : Int) + 1 = s.xEnd)) ∧
      (t.eodQ = true ↔
        s.rendering = true ∧ (s.hcount.toNat : Int) + 1 = s.xEnd ∧ (s.lineNumber.toNat : Int) = s.aeEff)) ∧
    lineIrqOut t = t.irqQ ∧ eodOut t = t.eodQ

/-- R281: the outputs in the cycle after one with `rst` = 1, be `rst` held or released; and in the first cycle with
`rst` = 1 itself, where all four show the state from before, whatever the pins are. For `line_irq` in that cycle this
is the model's reading of R256 beside R281 (log 12, DEDUCED). -/
def Obligations.OutputsDuringReset : Prop :=
  ∀ s t : State, s.pins.rst = 1 → step s = .next t →
    (t.hcount = 0 ∧ syncOut t = false ∧ videoOut t = false ∧ lineIrqOut t = false ∧ eodOut t = false) ∧
    (lineIrqOut s = s.irqQ ∧ eodOut s = s.eodQ ∧
      ∀ ps, syncOut (s.withInputs ps) = syncOut s ∧ videoOut (s.withInputs ps) = videoOut s ∧
        lineIrqOut (s.withInputs ps) = lineIrqOut s ∧ eodOut (s.withInputs ps) = eodOut s)

/-- R166: the fetch schedule of a rendered line, whatever word the host issues in the cycle: the reads see the
memory as it stands at the start of the cycle (R68). At an unpopulated address the value is free (log 7). -/
def Obligations.FetchSchedule : Prop :=
  ∀ s : State, s.cfg.wellFormed = true → s.pins.rst = 0 → s.rendering = true →
    s.cfg.lineFits s.ltrim s.lh = true →
    (∀ col, col < s.cfg.fetchCols →
      ((s.hcount.toNat : Int) + 2 = s.x0 + col * s.cfg.ppt * s.cfg.cpp →
        ∃ t, step s = .next t ∧ t.cur = s.cur ∧
          (populated s.cfg .screen (s.rowPtr + BitVec.ofNat 16 col) = true →
            t.cell = s.stored .screen (s.rowPtr + BitVec.ofNat 16 col))) ∧
      ((s.hcount.toNat : Int) + 1 = s.x0 + col * s.cfg.ppt * s.cfg.cpp →
        ∃ t, step s = .next t ∧ t.cell = s.cell ∧
          (populated s.cfg (bankOf s.cfg s.cell) (s.cellAddr s.cell) = true →
            t.cur = s.stored (bankOf s.cfg s.cell) (s.cellAddr s.cell)))) ∧
    ((∀ col, col < s.cfg.fetchCols →
        (s.hcount.toNat : Int) + 2 ≠ s.x0 + col * s.cfg.ppt * s.cfg.cpp ∧
        (s.hcount.toNat : Int) + 1 ≠ s.x0 + col * s.cfg.ppt * s.cfg.cpp) →
      ∀ t, step s = .next t → t.cell = s.cell ∧ t.cur = s.cur)

/-- R164: bank and index of a cell. -/
def Obligations.BankAndIndexOfCell : Prop :=
  ∀ (c : Cfg) (t : Byte),
    (c.hasRam = false → bankOf c t = .rom ∧ indexOf c t = t.toNat % c.romTiles) ∧
    (c.hasRam = true → t.toNat < 128 → bankOf c t = .rom ∧ indexOf c t = t.toNat % c.romTiles) ∧
    (c.hasRam = true → 128 ≤ t.toNat → bankOf c t = .ramt ∧ indexOf c t = (t.toNat - 128) % c.ramTiles)

/-- R165: the address of a bitmap byte, in both layouts, from the latched base of its bank; and `TileByte`, the byte
that a bitmap fetch reads at a populated address. -/
def Obligations.TileAddressFollowsLayout : Prop :=
  ∀ (s : State) (t : Byte),
    (bankOf s.cfg t = .rom → (s.cellAddr t).toNat =
      (match s.cfg.tileLayout with
      | .tileMajor => s.lfont.toNat + indexOf s.cfg t * s.cfg.tileH + s.tileRowOffset.toNat
      | .rowMajor => s.lfont.toNat + s.tileRowOffset.toNat * s.cfg.romTiles + indexOf s.cfg t) % 65536) ∧
    (bankOf s.cfg t = .ramt → (s.cellAddr t).toNat =
      (match s.cfg.tileLayout with
      | .tileMajor => s.lram.toNat + indexOf s.cfg t * s.cfg.tileH + s.tileRowOffset.toNat
      | .rowMajor => s.lram.toNat + s.tileRowOffset.toNat * s.cfg.ramTiles + indexOf s.cfg t) % 65536) ∧
    (populated s.cfg (bankOf s.cfg t) (s.cellAddr t) = true →
      ({ s with cell := t } : State).fetchTile.cur = s.stored (bankOf s.cfg t) (s.cellAddr t))

/-- R172: K.end, whatever word the host issues in the cycle. -/
def Obligations.KEndPostConditions : Prop :=
  ∀ s : State, s.cfg.wellFormed = true → s.pins.rst = 0 → s.rendering = true →
    s.cfg.lineFits s.ltrim s.lh = true → (s.hcount.toNat : Int) + 1 = s.xEnd →
    ∃ t, step s = .next t ∧ t.rendering = false ∧ t.irqQ = true ∧
      (if s.tileRowOffset.toNat + 1 = s.cfg.tileH then
        t.tileRowOffset = 0 ∧ t.rowPtr.toNat = (s.rowPtr.toNat + s.cfg.bufCols) % 65536
      else t.tileRowOffset = s.tileRowOffset + 1 ∧ t.rowPtr = s.rowPtr) ∧
      (if (s.lineNumber.toNat : Int) = s.cfg.activeEnd + s.vTrimL.toInt then
        t.eodQ = true ∧ t.handler = .inactive ∧ t.frameCount.toNat = (s.frameCount.toNat + 1) % 65536
      else t.eodQ = false ∧ t.handler = s.handler ∧ t.frameCount = s.frameCount) ∧
      t.hcount = s.hcount + 1 ∧ t.lineNumber = s.lineNumber ∧ t.swPending = s.swPending ∧
      t.swActive = s.swActive ∧ t.vTrimL = s.vTrimL ∧ t.lh = s.lh ∧ t.ltrim = s.ltrim ∧
      t.lfont = s.lfont ∧ t.lram = s.lram ∧ t.cell = s.cell ∧ t.cur = s.cur

/-! ## Outputs -/

/-- R124: `sync` is 0 for the first W cycles of a period. -/
def Obligations.SyncPulseWidth : Prop :=
  ∀ s : State,
    (s.swActive = .h → (syncOut s = false ↔ s.hcount.toNat < s.cfg.hsyncW)) ∧
    (s.swActive = .v → (syncOut s = false ↔ s.hcount.toNat < s.cfg.vsyncW))

/-- R125, R162, R167, R168, R170: pixel k of column c is on `video` for exactly the `CPP` cycles of its slot, counted
from `H_START + sext(ltrim) - lh × CPP`: the bit of `cur` that the pixel order names, 0 where the scroll masks it; and
outside the slots `video` is 0. -/
def Obligations.VideoShowsTheSlots : Prop :=
  ∀ s : State, 1 ≤ s.cfg.visCols →
    (∀ c k j : Nat, s.rendering = true → c < s.cfg.fetchCols → k < s.cfg.ppt → j < s.cfg.cpp →
      (s.hcount.toNat : Int) = s.cfg.hStart + s.ltrim.toInt - s.lh.toNat * s.cfg.cpp +
        (c * s.cfg.ppt + k : Nat) * s.cfg.cpp + j →
      videoOut s =
        if s.cfg.variant = .k8rs ∧ (c = 0 ∧ k < s.lh.toNat ∨ c = s.cfg.visCols ∧ s.lh.toNat ≤ k) then false
        else if s.cfg.msbFirst then s.cur.getLsbD (7 - k) else s.cur.getLsbD k) ∧
    (s.rendering = false ∨
      (s.hcount.toNat : Int) < s.cfg.hStart + s.ltrim.toInt - s.lh.toNat * s.cfg.cpp ∨
      s.cfg.hStart + s.ltrim.toInt - s.lh.toNat * s.cfg.cpp + s.cfg.slots * s.cfg.cpp ≤ s.hcount.toNat →
      videoOut s = false)

/-- R167, R168: the pixel order, and which pixels of a column are visible, for every variant and every column; with
`PPT` = 6 no slot shows pixel 6 or 7. -/
def Obligations.PixelOrderAndVisibility : Prop :=
  ∀ (c : Cfg) (h : Scroll) (b : Byte) (col k : Nat),
    (k < c.ppt → pixelBit c b k = if c.msbFirst then b.getLsbD (7 - k) else b.getLsbD k) ∧
    (c.variant = .k6 → ∀ n : Nat, n % c.ppt < 6) ∧
    (c.variant ≠ .k8rs → visible c h col k = true) ∧
    (c.variant = .k8rs → 1 ≤ c.visCols →
      visible c h 0 k = decide (h.toNat ≤ k) ∧
      visible c h c.visCols k = decide (k < h.toNat) ∧
      (0 < col → col < c.visCols → visible c h col k = true))

/-- R162: the start and end cycles of a rendered line; the first visible slot begins at `H_START + sext(ltrim)`
whatever the scroll, and without trim and scroll the line starts at `H_START`. -/
def Obligations.LineStartsAndEndsByItsLatches : Prop :=
  ∀ s : State,
    s.x0 = s.cfg.hStart + s.ltrim.toInt - s.lh.toNat * s.cfg.cpp ∧
    s.xEnd = s.x0 + s.cfg.slots * s.cfg.cpp ∧
    s.x0 + s.lh.toNat * s.cfg.cpp = s.cfg.hStart + s.ltrim.toInt ∧
    (Inv s → s.cfg.trimEn = false → s.cfg.hasHScroll = false → s.x0 = s.cfg.hStart)

/-- R10: the derived constants of each variant. -/
def Obligations.DerivedConstantsFollowVariant : Prop :=
  ∀ c : Cfg,
    c.ppt = (match c.variant with
      | .k6 => 6
      | .k8 => 8
      | .k8r => 8
      | .k8rs => 8) ∧
    c.fetchCols = (match c.variant with
      | .k6 => c.visCols
      | .k8 => c.visCols
      | .k8r => c.visCols
      | .k8rs => c.visCols + 1) ∧
    c.slots = c.fetchCols * c.ppt ∧ c.nActive = c.activeEnd - c.activeStart ∧
    c.screenBytes = c.bufCols * c.bufRows ∧
    (c.hasRam = true ↔ c.variant = .k8r ∨ c.variant = .k8rs) ∧ (c.hasHScroll = true ↔ c.variant = .k8rs)

/-- R169: the masks of the first and the last tile as byte masks, in both pixel orders; H_MASK reads the first of
them for the live scroll value in both. -/
def Obligations.ScrollMasksAreByteMasks : Prop :=
  ∀ (c : Cfg) (h : Scroll) (b : Byte) (k : Nat), c.variant = .k8rs → 1 ≤ c.visCols → k < 8 →
    (c.msbFirst = true →
      (visible c h 0 k && pixelBit c b k) = (b &&& ((0xFF : Byte) >>> h.toNat)).getLsbD (7 - k) ∧
      (visible c h c.visCols k && pixelBit c b k) = (b &&& ~~~ ((0xFF : Byte) >>> h.toNat)).getLsbD (7 - k)) ∧
    (c.msbFirst = false →
      (visible c h 0 k && pixelBit c b k) = (b &&& ((0xFF : Byte) <<< h.toNat)).getLsbD k ∧
      (visible c h c.visCols k && pixelBit c b k) = (b &&& ~~~ ((0xFF : Byte) <<< h.toNat)).getLsbD k) ∧
    (∀ s : State, s.cfg = c → s.hFine = h → exec .rdHMask s = .next { s with hRdata := (0xFF : Byte) >>> h.toNat })

/-! ## The two agents -/

/-- R285: a value written in one cycle is read back in the next, for every register the host can write. -/
def Obligations.WrittenValueReadsBackNextCycle : Prop :=
  ∀ (s t u : State) (d : Byte) (p : Instr × Instr × Byte),
    p ∈ [(.wrFontLo d, .rdFontLo, d), (.wrFontHi d, .rdFontHi, d), (.wrRamtLo d, .rdRamtLo, d),
      (.wrRamtHi d, .rdRamtHi, d), (.wrHScroll d, .rdHScroll, d &&& 7), (.wrVScroll d, .rdVScroll, d &&& 7),
      (.wrHTrim d, .rdHTrim, d), (.wrVTrim d, .rdVTrim, d)] →
    s.inputs = [hostPins p.1, hostPins p.2.1] → step s = .next t → step t = .next u → u.hRdata = p.2.2

/-- R264, R259: the host cannot disturb the renderer: two cycles that differ only in the host's word leave the same
renderer registers. -/
def Obligations.HostCannotDisturbRenderer : Prop :=
  ∀ (s t1 t2 : State) (w1 w2 : HbWord) (ps : List Input),
    step (s.withInputs (⟨0, w1⟩ :: ps)) = .next t1 → step (s.withInputs (⟨0, w2⟩ :: ps)) = .next t2 →
    SameRenderer t1 t2

/-- R264, R259: the renderer cannot disturb what the host writes: from two states that agree on it and on the pins
and differ in the renderer's registers, a cycle leaves it the same. -/
def Obligations.RendererCannotDisturbHost : Prop :=
  ∀ s s' t t' : State, s'.cfg = s.cfg → s'.pins = s.pins → SameHostRegs s s' → s'.screen = s.screen →
    s'.ramt = s.ramt → step s = .next t → step s' = .next t' →
    SameHostRegs t t' ∧ t'.screen = t.screen ∧ t'.ramt = t.ramt

/-- R7: no operation writes `Cfg`. -/
def Obligations.ConfigurationNeverChanges : Prop :=
  ∀ s t : State, step s = .next t → t.cfg = s.cfg

/-! ## Invariants and whole-machine rules -/

/-- The invariant holds after reset, for every well-formed configuration. -/
def Obligations.ResetStateMeetsInvariant : Prop :=
  ∀ c : Cfg, c.wellFormed = true → Inv (State.resetOf c)

/-- The invariant (R49, R123, R126, R150, R173) is kept by every step. -/
def Obligations.StepKeepsInvariant : Prop :=
  ∀ s t : State, Inv s → step s = .next t → Inv t

/-- R49: in every state that any host can bring VSG to. -/
def Obligations.ReachableStatesMeetR49 : Prop :=
  ∀ (c : Cfg) (s : State), c.wellFormed = true → Reachable c s →
    s.lineNumber.toNat < c.linesPerFrame ∧ s.tileRowOffset.toNat < c.tileH ∧
    (s.rendering = true → s.handler = .kernel) ∧
    (s.hcount.toNat = c.hCycles - 1 → s.rendering = false ∧ (s.handler = .kernel ↔ s.region = .active))

/-- R250, R200: VSG completes every cycle in which the trim registers keep the contract. -/
def Obligations.EveryCycleCompletesWithinContract : Prop :=
  ∀ s : State, Inv s → TrimsKept s → ∃ t, step s = .next t

/-- R11, R16 (g), R217: why a step can be refused, and nothing else (log 9, 10, 11). -/
def Obligations.RefusalsHaveTheirReasons : Prop :=
  ∀ (s : State) (r : Refusal), step s = .refused r →
    (r = .illFormedConfig ∧ s.cfg.wellFormed = false) ∨
    (r = .lineOutsidePeriod ∧ s.rendering = true ∧ s.cfg.lineFits s.ltrim s.lh = false) ∨
    (r = .hTrimOutsideContract ∧ s.hcount.toNat + 1 = s.cfg.hCycles ∧ s.handler = .kernel ∧
      s.cfg.trimEn = true ∧ s.cfg.hTrimOk s.hTrim = false) ∨
    (r = .vTrimOutsideContract ∧ s.hcount.toNat + 1 = s.cfg.hCycles ∧ s.handler = .inactive ∧
      (s.lineNumber + 1).toNat = s.cfg.linesPerFrame ∧ s.cfg.trimEn = true ∧ s.cfg.vTrimOk s.vTrim = false)

/-- R163: `ScrAddr(c)`, and that the renderer never reads SCREEN outside its populated range. -/
def Obligations.ScreenFetchesStayPopulated : Prop :=
  ∀ (s : State) (col : Nat), col < s.cfg.fetchCols →
    (s.scrAddr col).toNat = (s.rowPtr.toNat + col) % 65536 ∧
    (Inv s → s.rendering = true →
      (s.scrAddr col).toNat < s.cfg.screenBytes ∧ populated s.cfg .screen (s.scrAddr col) = true)

/-- R25, R147, R148: the region moves at the ticks that enter line 0, 1, `VSYNC_END`, `AS_eff` or `AE_eff` and at no
other time, and only to the next one in the order of the frame. -/
def Obligations.RegionsFollowTheirOrder : Prop :=
  ∀ s t : State, Inv s → s.pins.rst = 0 → step s = .next t →
    if s.hcount.toNat + 1 = s.cfg.hCycles ∧
        ((s.lineNumber + 1).toNat = s.cfg.linesPerFrame ∨ (s.lineNumber + 1).toNat = 1 ∨
          (s.lineNumber + 1).toNat = s.cfg.vsyncEnd ∨ ((s.lineNumber + 1).toNat : Int) = s.aeEff ∨
          ((s.lineNumber + 1).toNat : Int) = s.asEff) then
      (s.region, t.region) ∈ [(Region.preSync, Region.sync), (.sync, .postSync), (.postSync, .active),
        (.active, .postActive), (.postActive, .preSync)]
    else t.region = s.region

/-- R147: the table of the regions, for the thresholds in force. -/
def Obligations.RegionFollowsTable : Prop :=
  ∀ s : State, Inv s →
    (s.lineNumber.toNat = 0 → s.region = .preSync) ∧
    (1 ≤ s.lineNumber.toNat → s.lineNumber.toNat < s.cfg.vsyncEnd → s.region = .sync) ∧
    (s.cfg.vsyncEnd ≤ s.lineNumber.toNat → (s.lineNumber.toNat : Int) < s.cfg.activeStart + s.vTrimL.toInt →
      s.region = .postSync) ∧
    ((s.cfg.activeStart : Int) + s.vTrimL.toInt ≤ s.lineNumber.toNat →
      (s.lineNumber.toNat : Int) < s.cfg.activeEnd + s.vTrimL.toInt → s.region = .active) ∧
    ((s.cfg.activeEnd : Int) + s.vTrimL.toInt ≤ s.lineNumber.toNat →
      s.lineNumber.toNat < s.cfg.linesPerFrame → s.region = .postActive)

/-- R130, R170, R176 to R180, R256, R257: whatever the host does, a period emits its record: every cycle of `video` is
the picture of the line with each memory byte as it stands at its fetch cycle, every cycle of `sync` the pulse, `eod`
fires in cycle `x_end` if the record says so, and `line_irq` in cycle 0 or in cycle `x_end`. A period that a reset
cuts short does so up to and in the cycle of the reset; for `line_irq` in that
cycle this is the model's reading of R256 beside R281 (log 12, DEDUCED). -/
def Obligations.PeriodEmitsItsRecord : Prop :=
  ∀ (s : State) (n : Nat), Inv s → s.hcount = 0 → n < s.cfg.hCycles → (∀ p ∈ s.inputs.take n, p.rst = 0) →
    ∃ t, runCycles n s = .next t ∧ t.hcount.toNat = n ∧ t.lineNumber = s.lineRec.line ∧
      t.swActive = s.lineRec.pulse ∧ videoOut t = s.lineRec.video s.cfg n ∧ syncOut t = s.lineRec.sync s.cfg n ∧
      (eodOut t = true ↔ s.lineRec.eod = true ∧ (n : Int) = s.xEnd) ∧
      (lineIrqOut t = true ↔ if s.rendering then (n : Int) = s.xEnd else n = 0 ∧ s.irqQ = true)

/-- R69, R180: in a period in which the host drives no `rst` and writes no byte of SCREEN or RAMT, the picture is that
of the memory at the start of the period: each cell, and each bitmap byte at a populated address. -/
def Obligations.PictureShowsTheMemory : Prop :=
  ∀ (s : State) (col : Nat), Inv s → s.hcount = 0 → s.rendering = true → col < s.cfg.fetchCols →
    (∀ p ∈ s.inputs, p.rst = 0 ∧ ∀ a d, decode (.hb p.hb) ≠ .ok (.wrs a d) ∧ decode (.hb p.hb) ≠ .ok (.wrt a d)) →
    s.pictureCell col = s.stored .screen (s.scrAddr col) ∧
    (populated s.cfg (bankOf s.cfg (s.stored .screen (s.scrAddr col)))
        (s.cellAddr (s.stored .screen (s.scrAddr col))) = true →
      s.pictureByte col = s.stored (bankOf s.cfg (s.stored .screen (s.scrAddr col)))
        (s.cellAddr (s.stored .screen (s.scrAddr col))))

/-- R148, R246: whatever the host does with `rst` = 0, a frame that runs to its end is `LINES_PER_FRAME` periods long
and counts one displayed frame; and under a host that keeps the trim contract every frame runs to its end. -/
def Obligations.EveryFrameCountsOnce : Prop :=
  ∀ s : State, Inv s → s.hcount = 0 → s.lineNumber = 0 →
    (∀ p ∈ s.inputs.take (s.cfg.linesPerFrame * s.cfg.hCycles), p.rst = 0) →
    (∀ t, runCycles (s.cfg.linesPerFrame * s.cfg.hCycles) s = .next t →
      t.hcount = 0 ∧ t.lineNumber = 0 ∧ t.frameCount = s.frameCount + 1) ∧
    (TrimsKept s →
      (∀ p ∈ s.inputs.take (s.cfg.linesPerFrame * s.cfg.hCycles), ∀ d,
        (decode (.hb p.hb) = .ok (.wrHTrim d) → s.cfg.hTrimOk d = true) ∧
        (decode (.hb p.hb) = .ok (.wrVTrim d) → s.cfg.vTrimOk d = true)) →
      ∃ t, runCycles (s.cfg.linesPerFrame * s.cfg.hCycles) s = .next t)

/-- R243, R244: with no reset, WAITEND returns by a poll at the end of its own cycles, RDs and NOPs from the call on;
these cycles commit at least n increments of the frame counter, and the low byte that the poll reads is, modulo 256,
past the one that the first RD read by as many. -/
def Obligations.WaitEndNeverReturnsEarly : Prop :=
  ∀ (bound fuel : Nat) (n : Byte) (s t : State), (∀ p ∈ s.inputs, p.rst = 0) →
    waitEnd bound fuel n s = .returned t →
    ∃ (ops : List Instr) (u : State), (∀ i ∈ ops, i = .rdFrameLo ∨ i = .nop) ∧
      runHost (.rdFrameLo :: ops) s = .next u ∧ hostCycle .rdFrameLo u = .next t ∧
      t.hRdata = loByte u.frameCount ∧ n.toNat ≤ displayEnds (.rdFrameLo :: ops) s ∧
      n.toNat ≤ (loByte u.frameCount - loByte s.frameCount).toNat ∧
      u.frameCount = s.frameCount + BitVec.ofNat 16 (displayEnds (.rdFrameLo :: ops) s)

/-- R249: against a VSG held in reset, WFI never ends and WAITEND n with n ≥ 1 never returns, however long both go on
(`bound` and `fuel` are the model's limits on their rounds, log 20). The WFI starts with no strobe, as every cycle of
a reset but its first does. -/
def Obligations.WaitEndNeverReturnsInReset : Prop :=
  ∀ (bound fuel : Nat) (n : Byte) (s t : State), (∀ p ∈ s.inputs, p.rst = 1) →
    (s.irqQ = false → bound ≤ s.inputs.length → wfi bound s ≠ .returned t) ∧
    (1 ≤ n.toNat → 1 + fuel * (bound + 1) ≤ s.inputs.length → waitEnd bound fuel n s ≠ .returned t)

end
end

