-- ==== Sys2Proof/Laws/Decode.lean ====
section
/-! SUPPORT. The fields of a host bus word built from its fields, and the other way round. -/

namespace Sys2Proof

/-- Bit `i` of a host bus word of its fields. -/
theorem getLsbD_hbWord (re we : BitVec 1) (sel : BitVec 2) (a : Addr) (d : Byte) (i : Nat) :
    (hbWord re we sel a d).getLsbD i =
      if i < 8 then d.getLsbD i
      else if i - 8 < 16 then a.getLsbD (i - 8)
      else if i - 8 - 16 < 2 then sel.getLsbD (i - 8 - 16)
      else (re ++ we).getLsbD (i - 8 - 16 - 2) := by
  unfold hbWord
  simp only [BitVec.getLsbD_append]

@[simp] theorem strobesOf_hbWord (re we : BitVec 1) (sel : BitVec 2) (a : Addr) (d : Byte) :
    strobesOf (hbWord re we sel a d) = re ++ we := by
  apply BitVec.eq_of_getLsbD_eq
  intro i hi
  simp only [strobesOf, BitVec.getLsbD_extractLsb', hi, decide_true, Bool.true_and, getLsbD_hbWord]
  rw [if_neg (by omega), if_neg (by omega), if_neg (by omega), show 26 + i - 8 - 16 - 2 = i by omega]

@[simp] theorem selOf_hbWord (re we : BitVec 1) (sel : BitVec 2) (a : Addr) (d : Byte) :
    selOf (hbWord re we sel a d) = sel := by
  apply BitVec.eq_of_getLsbD_eq
  intro i hi
  simp only [selOf, BitVec.getLsbD_extractLsb', hi, decide_true, Bool.true_and, getLsbD_hbWord]
  rw [if_neg (by omega), if_neg (by omega), if_pos (by omega), show 24 + i - 8 - 16 = i by omega]

@[simp] theorem addrOf_hbWord (re we : BitVec 1) (sel : BitVec 2) (a : Addr) (d : Byte) :
    addrOf (hbWord re we sel a d) = a := by
  apply BitVec.eq_of_getLsbD_eq
  intro i hi
  simp only [addrOf, BitVec.getLsbD_extractLsb', hi, decide_true, Bool.true_and, getLsbD_hbWord]
  rw [if_neg (by omega), if_pos (by omega), show 8 + i - 8 = i by omega]

@[simp] theorem dataOf_hbWord (re we : BitVec 1) (sel : BitVec 2) (a : Addr) (d : Byte) :
    dataOf (hbWord re we sel a d) = d := by
  apply BitVec.eq_of_getLsbD_eq
  intro i hi
  simp only [dataOf, BitVec.getLsbD_extractLsb', hi, decide_true, Bool.true_and, getLsbD_hbWord]
  rw [if_pos (by omega), Nat.zero_add]

/-- Every word is the word of its fields. -/
theorem hbWord_of_fields (w : HbWord) :
    hbWord ((strobesOf w).extractLsb' 1 1) ((strobesOf w).extractLsb' 0 1) (selOf w) (addrOf w) (dataOf w) = w := by
  apply BitVec.eq_of_getLsbD_eq
  intro i hi
  rw [getLsbD_hbWord]
  by_cases h8 : i < 8
  · simp [dataOf, h8]
  by_cases h16 : i - 8 < 16
  · simp [addrOf, h8, h16, show 8 + (i - 8) = i by omega]
  by_cases h2 : i - 8 - 16 < 2
  · simp [selOf, h8, h16, h2, show 24 + (i - 8 - 16) = i by omega]
  · rw [if_neg h8, if_neg h16, if_neg h2, BitVec.getLsbD_append]
    have hk : i = 26 ∨ i = 27 := by omega
    rcases hk with rfl | rfl <;> simp [strobesOf]

/-- The variant whose code the selector carries. -/
@[simp] theorem Variant.ofCode_code (v : Variant) : Variant.ofCode v.code = v := by cases v <;> rfl

end Sys2Proof
end

