-- ==== Sys2Proof/Laws/State.lean ====
section
/-! SUPPORT. What each named update of State leaves in each field: one lemma per field per update, true by rfl. -/

namespace Sys2Proof.Machine

/-! ### putRdata -/

@[simp] theorem State.putRdata_cfg (s : State) (b : Byte) : (s.putRdata b).cfg = s.cfg := rfl
@[simp] theorem State.putRdata_hcount (s : State) (b : Byte) : (s.putRdata b).hcount = s.hcount := rfl
@[simp] theorem State.putRdata_lineNumber (s : State) (b : Byte) : (s.putRdata b).lineNumber = s.lineNumber := rfl
@[simp] theorem State.putRdata_handler (s : State) (b : Byte) : (s.putRdata b).handler = s.handler := rfl
@[simp] theorem State.putRdata_swPending (s : State) (b : Byte) : (s.putRdata b).swPending = s.swPending := rfl
@[simp] theorem State.putRdata_swActive (s : State) (b : Byte) : (s.putRdata b).swActive = s.swActive := rfl
@[simp] theorem State.putRdata_frameCount (s : State) (b : Byte) : (s.putRdata b).frameCount = s.frameCount := rfl
@[simp] theorem State.putRdata_tileRowOffset (s : State) (b : Byte) : (s.putRdata b).tileRowOffset = s.tileRowOffset := rfl
@[simp] theorem State.putRdata_rowPtr (s : State) (b : Byte) : (s.putRdata b).rowPtr = s.rowPtr := rfl
@[simp] theorem State.putRdata_fontBase (s : State) (b : Byte) : (s.putRdata b).fontBase = s.fontBase := rfl
@[simp] theorem State.putRdata_ramtBase (s : State) (b : Byte) : (s.putRdata b).ramtBase = s.ramtBase := rfl
@[simp] theorem State.putRdata_hFine (s : State) (b : Byte) : (s.putRdata b).hFine = s.hFine := rfl
@[simp] theorem State.putRdata_vFine (s : State) (b : Byte) : (s.putRdata b).vFine = s.vFine := rfl
@[simp] theorem State.putRdata_hTrim (s : State) (b : Byte) : (s.putRdata b).hTrim = s.hTrim := rfl
@[simp] theorem State.putRdata_vTrim (s : State) (b : Byte) : (s.putRdata b).vTrim = s.vTrim := rfl
@[simp] theorem State.putRdata_vTrimL (s : State) (b : Byte) : (s.putRdata b).vTrimL = s.vTrimL := rfl
@[simp] theorem State.putRdata_lh (s : State) (b : Byte) : (s.putRdata b).lh = s.lh := rfl
@[simp] theorem State.putRdata_ltrim (s : State) (b : Byte) : (s.putRdata b).ltrim = s.ltrim := rfl
@[simp] theorem State.putRdata_lfont (s : State) (b : Byte) : (s.putRdata b).lfont = s.lfont := rfl
@[simp] theorem State.putRdata_lram (s : State) (b : Byte) : (s.putRdata b).lram = s.lram := rfl
@[simp] theorem State.putRdata_rendering (s : State) (b : Byte) : (s.putRdata b).rendering = s.rendering := rfl
@[simp] theorem State.putRdata_cell (s : State) (b : Byte) : (s.putRdata b).cell = s.cell := rfl
@[simp] theorem State.putRdata_cur (s : State) (b : Byte) : (s.putRdata b).cur = s.cur := rfl
@[simp] theorem State.putRdata_irqQ (s : State) (b : Byte) : (s.putRdata b).irqQ = s.irqQ := rfl
@[simp] theorem State.putRdata_eodQ (s : State) (b : Byte) : (s.putRdata b).eodQ = s.eodQ := rfl
@[simp] theorem State.putRdata_screen (s : State) (b : Byte) : (s.putRdata b).screen = s.screen := rfl
@[simp] theorem State.putRdata_ramt (s : State) (b : Byte) : (s.putRdata b).ramt = s.ramt := rfl
@[simp] theorem State.putRdata_inputs (s : State) (b : Byte) : (s.putRdata b).inputs = s.inputs := rfl
@[simp] theorem State.putRdata_hRdata (s : State) (b : Byte) : (s.putRdata b).hRdata = b := rfl
@[simp] theorem State.putRdata_hostDraws (s : State) (b : Byte) : (s.putRdata b).hostDraws = s.hostDraws := rfl
@[simp] theorem State.putRdata_rendDraws (s : State) (b : Byte) : (s.putRdata b).rendDraws = s.rendDraws := rfl

/-! ### clearStrobes -/

@[simp] theorem State.clearStrobes_cfg (s : State) : s.clearStrobes.cfg = s.cfg := rfl
@[simp] theorem State.clearStrobes_hcount (s : State) : s.clearStrobes.hcount = s.hcount := rfl
@[simp] theorem State.clearStrobes_lineNumber (s : State) : s.clearStrobes.lineNumber = s.lineNumber := rfl
@[simp] theorem State.clearStrobes_handler (s : State) : s.clearStrobes.handler = s.handler := rfl
@[simp] theorem State.clearStrobes_swPending (s : State) : s.clearStrobes.swPending = s.swPending := rfl
@[simp] theorem State.clearStrobes_swActive (s : State) : s.clearStrobes.swActive = s.swActive := rfl
@[simp] theorem State.clearStrobes_frameCount (s : State) : s.clearStrobes.frameCount = s.frameCount := rfl
@[simp] theorem State.clearStrobes_tileRowOffset (s : State) : s.clearStrobes.tileRowOffset = s.tileRowOffset := rfl
@[simp] theorem State.clearStrobes_rowPtr (s : State) : s.clearStrobes.rowPtr = s.rowPtr := rfl
@[simp] theorem State.clearStrobes_fontBase (s : State) : s.clearStrobes.fontBase = s.fontBase := rfl
@[simp] theorem State.clearStrobes_ramtBase (s : State) : s.clearStrobes.ramtBase = s.ramtBase := rfl
@[simp] theorem State.clearStrobes_hFine (s : State) : s.clearStrobes.hFine = s.hFine := rfl
@[simp] theorem State.clearStrobes_vFine (s : State) : s.clearStrobes.vFine = s.vFine := rfl
@[simp] theorem State.clearStrobes_hTrim (s : State) : s.clearStrobes.hTrim = s.hTrim := rfl
@[simp] theorem State.clearStrobes_vTrim (s : State) : s.clearStrobes.vTrim = s.vTrim := rfl
@[simp] theorem State.clearStrobes_vTrimL (s : State) : s.clearStrobes.vTrimL = s.vTrimL := rfl
@[simp] theorem State.clearStrobes_lh (s : State) : s.clearStrobes.lh = s.lh := rfl
@[simp] theorem State.clearStrobes_ltrim (s : State) : s.clearStrobes.ltrim = s.ltrim := rfl
@[simp] theorem State.clearStrobes_lfont (s : State) : s.clearStrobes.lfont = s.lfont := rfl
@[simp] theorem State.clearStrobes_lram (s : State) : s.clearStrobes.lram = s.lram := rfl
@[simp] theorem State.clearStrobes_rendering (s : State) : s.clearStrobes.rendering = s.rendering := rfl
@[simp] theorem State.clearStrobes_cell (s : State) : s.clearStrobes.cell = s.cell := rfl
@[simp] theorem State.clearStrobes_cur (s : State) : s.clearStrobes.cur = s.cur := rfl
@[simp] theorem State.clearStrobes_irqQ (s : State) : s.clearStrobes.irqQ = false := rfl
@[simp] theorem State.clearStrobes_eodQ (s : State) : s.clearStrobes.eodQ = false := rfl
@[simp] theorem State.clearStrobes_screen (s : State) : s.clearStrobes.screen = s.screen := rfl
@[simp] theorem State.clearStrobes_ramt (s : State) : s.clearStrobes.ramt = s.ramt := rfl
@[simp] theorem State.clearStrobes_inputs (s : State) : s.clearStrobes.inputs = s.inputs := rfl
@[simp] theorem State.clearStrobes_hRdata (s : State) : s.clearStrobes.hRdata = s.hRdata := rfl
@[simp] theorem State.clearStrobes_hostDraws (s : State) : s.clearStrobes.hostDraws = s.hostDraws := rfl
@[simp] theorem State.clearStrobes_rendDraws (s : State) : s.clearStrobes.rendDraws = s.rendDraws := rfl

/-! ### raiseIrq -/

@[simp] theorem State.raiseIrq_cfg (s : State) : s.raiseIrq.cfg = s.cfg := rfl
@[simp] theorem State.raiseIrq_hcount (s : State) : s.raiseIrq.hcount = s.hcount := rfl
@[simp] theorem State.raiseIrq_lineNumber (s : State) : s.raiseIrq.lineNumber = s.lineNumber := rfl
@[simp] theorem State.raiseIrq_handler (s : State) : s.raiseIrq.handler = s.handler := rfl
@[simp] theorem State.raiseIrq_swPending (s : State) : s.raiseIrq.swPending = s.swPending := rfl
@[simp] theorem State.raiseIrq_swActive (s : State) : s.raiseIrq.swActive = s.swActive := rfl
@[simp] theorem State.raiseIrq_frameCount (s : State) : s.raiseIrq.frameCount = s.frameCount := rfl
@[simp] theorem State.raiseIrq_tileRowOffset (s : State) : s.raiseIrq.tileRowOffset = s.tileRowOffset := rfl
@[simp] theorem State.raiseIrq_rowPtr (s : State) : s.raiseIrq.rowPtr = s.rowPtr := rfl
@[simp] theorem State.raiseIrq_fontBase (s : State) : s.raiseIrq.fontBase = s.fontBase := rfl
@[simp] theorem State.raiseIrq_ramtBase (s : State) : s.raiseIrq.ramtBase = s.ramtBase := rfl
@[simp] theorem State.raiseIrq_hFine (s : State) : s.raiseIrq.hFine = s.hFine := rfl
@[simp] theorem State.raiseIrq_vFine (s : State) : s.raiseIrq.vFine = s.vFine := rfl
@[simp] theorem State.raiseIrq_hTrim (s : State) : s.raiseIrq.hTrim = s.hTrim := rfl
@[simp] theorem State.raiseIrq_vTrim (s : State) : s.raiseIrq.vTrim = s.vTrim := rfl
@[simp] theorem State.raiseIrq_vTrimL (s : State) : s.raiseIrq.vTrimL = s.vTrimL := rfl
@[simp] theorem State.raiseIrq_lh (s : State) : s.raiseIrq.lh = s.lh := rfl
@[simp] theorem State.raiseIrq_ltrim (s : State) : s.raiseIrq.ltrim = s.ltrim := rfl
@[simp] theorem State.raiseIrq_lfont (s : State) : s.raiseIrq.lfont = s.lfont := rfl
@[simp] theorem State.raiseIrq_lram (s : State) : s.raiseIrq.lram = s.lram := rfl
@[simp] theorem State.raiseIrq_rendering (s : State) : s.raiseIrq.rendering = s.rendering := rfl
@[simp] theorem State.raiseIrq_cell (s : State) : s.raiseIrq.cell = s.cell := rfl
@[simp] theorem State.raiseIrq_cur (s : State) : s.raiseIrq.cur = s.cur := rfl
@[simp] theorem State.raiseIrq_irqQ (s : State) : s.raiseIrq.irqQ = true := rfl
@[simp] theorem State.raiseIrq_eodQ (s : State) : s.raiseIrq.eodQ = s.eodQ := rfl
@[simp] theorem State.raiseIrq_screen (s : State) : s.raiseIrq.screen = s.screen := rfl
@[simp] theorem State.raiseIrq_ramt (s : State) : s.raiseIrq.ramt = s.ramt := rfl
@[simp] theorem State.raiseIrq_inputs (s : State) : s.raiseIrq.inputs = s.inputs := rfl
@[simp] theorem State.raiseIrq_hRdata (s : State) : s.raiseIrq.hRdata = s.hRdata := rfl
@[simp] theorem State.raiseIrq_hostDraws (s : State) : s.raiseIrq.hostDraws = s.hostDraws := rfl
@[simp] theorem State.raiseIrq_rendDraws (s : State) : s.raiseIrq.rendDraws = s.rendDraws := rfl

/-! ### raiseEod -/

@[simp] theorem State.raiseEod_cfg (s : State) : s.raiseEod.cfg = s.cfg := rfl
@[simp] theorem State.raiseEod_hcount (s : State) : s.raiseEod.hcount = s.hcount := rfl
@[simp] theorem State.raiseEod_lineNumber (s : State) : s.raiseEod.lineNumber = s.lineNumber := rfl
@[simp] theorem State.raiseEod_handler (s : State) : s.raiseEod.handler = s.handler := rfl
@[simp] theorem State.raiseEod_swPending (s : State) : s.raiseEod.swPending = s.swPending := rfl
@[simp] theorem State.raiseEod_swActive (s : State) : s.raiseEod.swActive = s.swActive := rfl
@[simp] theorem State.raiseEod_frameCount (s : State) : s.raiseEod.frameCount = s.frameCount := rfl
@[simp] theorem State.raiseEod_tileRowOffset (s : State) : s.raiseEod.tileRowOffset = s.tileRowOffset := rfl
@[simp] theorem State.raiseEod_rowPtr (s : State) : s.raiseEod.rowPtr = s.rowPtr := rfl
@[simp] theorem State.raiseEod_fontBase (s : State) : s.raiseEod.fontBase = s.fontBase := rfl
@[simp] theorem State.raiseEod_ramtBase (s : State) : s.raiseEod.ramtBase = s.ramtBase := rfl
@[simp] theorem State.raiseEod_hFine (s : State) : s.raiseEod.hFine = s.hFine := rfl
@[simp] theorem State.raiseEod_vFine (s : State) : s.raiseEod.vFine = s.vFine := rfl
@[simp] theorem State.raiseEod_hTrim (s : State) : s.raiseEod.hTrim = s.hTrim := rfl
@[simp] theorem State.raiseEod_vTrim (s : State) : s.raiseEod.vTrim = s.vTrim := rfl
@[simp] theorem State.raiseEod_vTrimL (s : State) : s.raiseEod.vTrimL = s.vTrimL := rfl
@[simp] theorem State.raiseEod_lh (s : State) : s.raiseEod.lh = s.lh := rfl
@[simp] theorem State.raiseEod_ltrim (s : State) : s.raiseEod.ltrim = s.ltrim := rfl
@[simp] theorem State.raiseEod_lfont (s : State) : s.raiseEod.lfont = s.lfont := rfl
@[simp] theorem State.raiseEod_lram (s : State) : s.raiseEod.lram = s.lram := rfl
@[simp] theorem State.raiseEod_rendering (s : State) : s.raiseEod.rendering = s.rendering := rfl
@[simp] theorem State.raiseEod_cell (s : State) : s.raiseEod.cell = s.cell := rfl
@[simp] theorem State.raiseEod_cur (s : State) : s.raiseEod.cur = s.cur := rfl
@[simp] theorem State.raiseEod_irqQ (s : State) : s.raiseEod.irqQ = s.irqQ := rfl
@[simp] theorem State.raiseEod_eodQ (s : State) : s.raiseEod.eodQ = true := rfl
@[simp] theorem State.raiseEod_screen (s : State) : s.raiseEod.screen = s.screen := rfl
@[simp] theorem State.raiseEod_ramt (s : State) : s.raiseEod.ramt = s.ramt := rfl
@[simp] theorem State.raiseEod_inputs (s : State) : s.raiseEod.inputs = s.inputs := rfl
@[simp] theorem State.raiseEod_hRdata (s : State) : s.raiseEod.hRdata = s.hRdata := rfl
@[simp] theorem State.raiseEod_hostDraws (s : State) : s.raiseEod.hostDraws = s.hostDraws := rfl
@[simp] theorem State.raiseEod_rendDraws (s : State) : s.raiseEod.rendDraws = s.rendDraws := rfl

/-! ### popInput -/

@[simp] theorem State.popInput_cfg (s : State) : s.popInput.cfg = s.cfg := rfl
@[simp] theorem State.popInput_hcount (s : State) : s.popInput.hcount = s.hcount := rfl
@[simp] theorem State.popInput_lineNumber (s : State) : s.popInput.lineNumber = s.lineNumber := rfl
@[simp] theorem State.popInput_handler (s : State) : s.popInput.handler = s.handler := rfl
@[simp] theorem State.popInput_swPending (s : State) : s.popInput.swPending = s.swPending := rfl
@[simp] theorem State.popInput_swActive (s : State) : s.popInput.swActive = s.swActive := rfl
@[simp] theorem State.popInput_frameCount (s : State) : s.popInput.frameCount = s.frameCount := rfl
@[simp] theorem State.popInput_tileRowOffset (s : State) : s.popInput.tileRowOffset = s.tileRowOffset := rfl
@[simp] theorem State.popInput_rowPtr (s : State) : s.popInput.rowPtr = s.rowPtr := rfl
@[simp] theorem State.popInput_fontBase (s : State) : s.popInput.fontBase = s.fontBase := rfl
@[simp] theorem State.popInput_ramtBase (s : State) : s.popInput.ramtBase = s.ramtBase := rfl
@[simp] theorem State.popInput_hFine (s : State) : s.popInput.hFine = s.hFine := rfl
@[simp] theorem State.popInput_vFine (s : State) : s.popInput.vFine = s.vFine := rfl
@[simp] theorem State.popInput_hTrim (s : State) : s.popInput.hTrim = s.hTrim := rfl
@[simp] theorem State.popInput_vTrim (s : State) : s.popInput.vTrim = s.vTrim := rfl
@[simp] theorem State.popInput_vTrimL (s : State) : s.popInput.vTrimL = s.vTrimL := rfl
@[simp] theorem State.popInput_lh (s : State) : s.popInput.lh = s.lh := rfl
@[simp] theorem State.popInput_ltrim (s : State) : s.popInput.ltrim = s.ltrim := rfl
@[simp] theorem State.popInput_lfont (s : State) : s.popInput.lfont = s.lfont := rfl
@[simp] theorem State.popInput_lram (s : State) : s.popInput.lram = s.lram := rfl
@[simp] theorem State.popInput_rendering (s : State) : s.popInput.rendering = s.rendering := rfl
@[simp] theorem State.popInput_cell (s : State) : s.popInput.cell = s.cell := rfl
@[simp] theorem State.popInput_cur (s : State) : s.popInput.cur = s.cur := rfl
@[simp] theorem State.popInput_irqQ (s : State) : s.popInput.irqQ = s.irqQ := rfl
@[simp] theorem State.popInput_eodQ (s : State) : s.popInput.eodQ = s.eodQ := rfl
@[simp] theorem State.popInput_screen (s : State) : s.popInput.screen = s.screen := rfl
@[simp] theorem State.popInput_ramt (s : State) : s.popInput.ramt = s.ramt := rfl
@[simp] theorem State.popInput_inputs (s : State) : s.popInput.inputs = s.inputs.tail := rfl
@[simp] theorem State.popInput_hRdata (s : State) : s.popInput.hRdata = s.hRdata := rfl
@[simp] theorem State.popInput_hostDraws (s : State) : s.popInput.hostDraws = s.hostDraws := rfl
@[simp] theorem State.popInput_rendDraws (s : State) : s.popInput.rendDraws = s.rendDraws := rfl

/-! ### withInputs -/

@[simp] theorem State.withInputs_cfg (s : State) (ps : List Input) : (s.withInputs ps).cfg = s.cfg := rfl
@[simp] theorem State.withInputs_hcount (s : State) (ps : List Input) : (s.withInputs ps).hcount = s.hcount := rfl
@[simp] theorem State.withInputs_lineNumber (s : State) (ps : List Input) : (s.withInputs ps).lineNumber = s.lineNumber := rfl
@[simp] theorem State.withInputs_handler (s : State) (ps : List Input) : (s.withInputs ps).handler = s.handler := rfl
@[simp] theorem State.withInputs_swPending (s : State) (ps : List Input) : (s.withInputs ps).swPending = s.swPending := rfl
@[simp] theorem State.withInputs_swActive (s : State) (ps : List Input) : (s.withInputs ps).swActive = s.swActive := rfl
@[simp] theorem State.withInputs_frameCount (s : State) (ps : List Input) : (s.withInputs ps).frameCount = s.frameCount := rfl
@[simp] theorem State.withInputs_tileRowOffset (s : State) (ps : List Input) : (s.withInputs ps).tileRowOffset = s.tileRowOffset := rfl
@[simp] theorem State.withInputs_rowPtr (s : State) (ps : List Input) : (s.withInputs ps).rowPtr = s.rowPtr := rfl
@[simp] theorem State.withInputs_fontBase (s : State) (ps : List Input) : (s.withInputs ps).fontBase = s.fontBase := rfl
@[simp] theorem State.withInputs_ramtBase (s : State) (ps : List Input) : (s.withInputs ps).ramtBase = s.ramtBase := rfl
@[simp] theorem State.withInputs_hFine (s : State) (ps : List Input) : (s.withInputs ps).hFine = s.hFine := rfl
@[simp] theorem State.withInputs_vFine (s : State) (ps : List Input) : (s.withInputs ps).vFine = s.vFine := rfl
@[simp] theorem State.withInputs_hTrim (s : State) (ps : List Input) : (s.withInputs ps).hTrim = s.hTrim := rfl
@[simp] theorem State.withInputs_vTrim (s : State) (ps : List Input) : (s.withInputs ps).vTrim = s.vTrim := rfl
@[simp] theorem State.withInputs_vTrimL (s : State) (ps : List Input) : (s.withInputs ps).vTrimL = s.vTrimL := rfl
@[simp] theorem State.withInputs_lh (s : State) (ps : List Input) : (s.withInputs ps).lh = s.lh := rfl
@[simp] theorem State.withInputs_ltrim (s : State) (ps : List Input) : (s.withInputs ps).ltrim = s.ltrim := rfl
@[simp] theorem State.withInputs_lfont (s : State) (ps : List Input) : (s.withInputs ps).lfont = s.lfont := rfl
@[simp] theorem State.withInputs_lram (s : State) (ps : List Input) : (s.withInputs ps).lram = s.lram := rfl
@[simp] theorem State.withInputs_rendering (s : State) (ps : List Input) : (s.withInputs ps).rendering = s.rendering := rfl
@[simp] theorem State.withInputs_cell (s : State) (ps : List Input) : (s.withInputs ps).cell = s.cell := rfl
@[simp] theorem State.withInputs_cur (s : State) (ps : List Input) : (s.withInputs ps).cur = s.cur := rfl
@[simp] theorem State.withInputs_irqQ (s : State) (ps : List Input) : (s.withInputs ps).irqQ = s.irqQ := rfl
@[simp] theorem State.withInputs_eodQ (s : State) (ps : List Input) : (s.withInputs ps).eodQ = s.eodQ := rfl
@[simp] theorem State.withInputs_screen (s : State) (ps : List Input) : (s.withInputs ps).screen = s.screen := rfl
@[simp] theorem State.withInputs_ramt (s : State) (ps : List Input) : (s.withInputs ps).ramt = s.ramt := rfl
@[simp] theorem State.withInputs_inputs (s : State) (ps : List Input) : (s.withInputs ps).inputs = ps := rfl
@[simp] theorem State.withInputs_hRdata (s : State) (ps : List Input) : (s.withInputs ps).hRdata = s.hRdata := rfl
@[simp] theorem State.withInputs_hostDraws (s : State) (ps : List Input) : (s.withInputs ps).hostDraws = s.hostDraws := rfl
@[simp] theorem State.withInputs_rendDraws (s : State) (ps : List Input) : (s.withInputs ps).rendDraws = s.rendDraws := rfl

/-! ### wrap -/

@[simp] theorem State.wrap_cfg (s : State) : s.wrap.cfg = s.cfg := rfl
@[simp] theorem State.wrap_hcount (s : State) : s.wrap.hcount = s.hcount := rfl
@[simp] theorem State.wrap_lineNumber (s : State) : s.wrap.lineNumber = 0 := rfl
@[simp] theorem State.wrap_handler (s : State) : s.wrap.handler = s.handler := rfl
@[simp] theorem State.wrap_swPending (s : State) : s.wrap.swPending = .v := rfl
@[simp] theorem State.wrap_swActive (s : State) : s.wrap.swActive = s.swActive := rfl
@[simp] theorem State.wrap_frameCount (s : State) : s.wrap.frameCount = s.frameCount := rfl
@[simp] theorem State.wrap_tileRowOffset (s : State) : s.wrap.tileRowOffset = s.tileRowOffset := rfl
@[simp] theorem State.wrap_rowPtr (s : State) : s.wrap.rowPtr = s.rowPtr := rfl
@[simp] theorem State.wrap_fontBase (s : State) : s.wrap.fontBase = s.fontBase := rfl
@[simp] theorem State.wrap_ramtBase (s : State) : s.wrap.ramtBase = s.ramtBase := rfl
@[simp] theorem State.wrap_hFine (s : State) : s.wrap.hFine = s.hFine := rfl
@[simp] theorem State.wrap_vFine (s : State) : s.wrap.vFine = s.vFine := rfl
@[simp] theorem State.wrap_hTrim (s : State) : s.wrap.hTrim = s.hTrim := rfl
@[simp] theorem State.wrap_vTrim (s : State) : s.wrap.vTrim = s.vTrim := rfl
@[simp] theorem State.wrap_vTrimL (s : State) : s.wrap.vTrimL =
    (if s.cfg.trimEn then s.vTrim else 0) := rfl
@[simp] theorem State.wrap_lh (s : State) : s.wrap.lh = s.lh := rfl
@[simp] theorem State.wrap_ltrim (s : State) : s.wrap.ltrim = s.ltrim := rfl
@[simp] theorem State.wrap_lfont (s : State) : s.wrap.lfont = s.lfont := rfl
@[simp] theorem State.wrap_lram (s : State) : s.wrap.lram = s.lram := rfl
@[simp] theorem State.wrap_rendering (s : State) : s.wrap.rendering = s.rendering := rfl
@[simp] theorem State.wrap_cell (s : State) : s.wrap.cell = s.cell := rfl
@[simp] theorem State.wrap_cur (s : State) : s.wrap.cur = s.cur := rfl
@[simp] theorem State.wrap_irqQ (s : State) : s.wrap.irqQ = s.irqQ := rfl
@[simp] theorem State.wrap_eodQ (s : State) : s.wrap.eodQ = s.eodQ := rfl
@[simp] theorem State.wrap_screen (s : State) : s.wrap.screen = s.screen := rfl
@[simp] theorem State.wrap_ramt (s : State) : s.wrap.ramt = s.ramt := rfl
@[simp] theorem State.wrap_inputs (s : State) : s.wrap.inputs = s.inputs := rfl
@[simp] theorem State.wrap_hRdata (s : State) : s.wrap.hRdata = s.hRdata := rfl
@[simp] theorem State.wrap_hostDraws (s : State) : s.wrap.hostDraws = s.hostDraws := rfl
@[simp] theorem State.wrap_rendDraws (s : State) : s.wrap.rendDraws = s.rendDraws := rfl

/-! ### vsyncEndTo -/

@[simp] theorem State.vsyncEndTo_cfg (s : State) (ln : BitVec 16) : (s.vsyncEndTo ln).cfg = s.cfg := rfl
@[simp] theorem State.vsyncEndTo_hcount (s : State) (ln : BitVec 16) : (s.vsyncEndTo ln).hcount = s.hcount := rfl
@[simp] theorem State.vsyncEndTo_lineNumber (s : State) (ln : BitVec 16) : (s.vsyncEndTo ln).lineNumber = ln := rfl
@[simp] theorem State.vsyncEndTo_handler (s : State) (ln : BitVec 16) : (s.vsyncEndTo ln).handler = s.handler := rfl
@[simp] theorem State.vsyncEndTo_swPending (s : State) (ln : BitVec 16) : (s.vsyncEndTo ln).swPending = .h := rfl
@[simp] theorem State.vsyncEndTo_swActive (s : State) (ln : BitVec 16) : (s.vsyncEndTo ln).swActive = s.swActive := rfl
@[simp] theorem State.vsyncEndTo_frameCount (s : State) (ln : BitVec 16) : (s.vsyncEndTo ln).frameCount = s.frameCount := rfl
@[simp] theorem State.vsyncEndTo_tileRowOffset (s : State) (ln : BitVec 16) : (s.vsyncEndTo ln).tileRowOffset = s.tileRowOffset := rfl
@[simp] theorem State.vsyncEndTo_rowPtr (s : State) (ln : BitVec 16) : (s.vsyncEndTo ln).rowPtr = s.rowPtr := rfl
@[simp] theorem State.vsyncEndTo_fontBase (s : State) (ln : BitVec 16) : (s.vsyncEndTo ln).fontBase = s.fontBase := rfl
@[simp] theorem State.vsyncEndTo_ramtBase (s : State) (ln : BitVec 16) : (s.vsyncEndTo ln).ramtBase = s.ramtBase := rfl
@[simp] theorem State.vsyncEndTo_hFine (s : State) (ln : BitVec 16) : (s.vsyncEndTo ln).hFine = s.hFine := rfl
@[simp] theorem State.vsyncEndTo_vFine (s : State) (ln : BitVec 16) : (s.vsyncEndTo ln).vFine = s.vFine := rfl
@[simp] theorem State.vsyncEndTo_hTrim (s : State) (ln : BitVec 16) : (s.vsyncEndTo ln).hTrim = s.hTrim := rfl
@[simp] theorem State.vsyncEndTo_vTrim (s : State) (ln : BitVec 16) : (s.vsyncEndTo ln).vTrim = s.vTrim := rfl
@[simp] theorem State.vsyncEndTo_vTrimL (s : State) (ln : BitVec 16) : (s.vsyncEndTo ln).vTrimL = s.vTrimL := rfl
@[simp] theorem State.vsyncEndTo_lh (s : State) (ln : BitVec 16) : (s.vsyncEndTo ln).lh = s.lh := rfl
@[simp] theorem State.vsyncEndTo_ltrim (s : State) (ln : BitVec 16) : (s.vsyncEndTo ln).ltrim = s.ltrim := rfl
@[simp] theorem State.vsyncEndTo_lfont (s : State) (ln : BitVec 16) : (s.vsyncEndTo ln).lfont = s.lfont := rfl
@[simp] theorem State.vsyncEndTo_lram (s : State) (ln : BitVec 16) : (s.vsyncEndTo ln).lram = s.lram := rfl
@[simp] theorem State.vsyncEndTo_rendering (s : State) (ln : BitVec 16) : (s.vsyncEndTo ln).rendering = s.rendering := rfl
@[simp] theorem State.vsyncEndTo_cell (s : State) (ln : BitVec 16) : (s.vsyncEndTo ln).cell = s.cell := rfl
@[simp] theorem State.vsyncEndTo_cur (s : State) (ln : BitVec 16) : (s.vsyncEndTo ln).cur = s.cur := rfl
@[simp] theorem State.vsyncEndTo_irqQ (s : State) (ln : BitVec 16) : (s.vsyncEndTo ln).irqQ = s.irqQ := rfl
@[simp] theorem State.vsyncEndTo_eodQ (s : State) (ln : BitVec 16) : (s.vsyncEndTo ln).eodQ = s.eodQ := rfl
@[simp] theorem State.vsyncEndTo_screen (s : State) (ln : BitVec 16) : (s.vsyncEndTo ln).screen = s.screen := rfl
@[simp] theorem State.vsyncEndTo_ramt (s : State) (ln : BitVec 16) : (s.vsyncEndTo ln).ramt = s.ramt := rfl
@[simp] theorem State.vsyncEndTo_inputs (s : State) (ln : BitVec 16) : (s.vsyncEndTo ln).inputs = s.inputs := rfl
@[simp] theorem State.vsyncEndTo_hRdata (s : State) (ln : BitVec 16) : (s.vsyncEndTo ln).hRdata = s.hRdata := rfl
@[simp] theorem State.vsyncEndTo_hostDraws (s : State) (ln : BitVec 16) : (s.vsyncEndTo ln).hostDraws = s.hostDraws := rfl
@[simp] theorem State.vsyncEndTo_rendDraws (s : State) (ln : BitVec 16) : (s.vsyncEndTo ln).rendDraws = s.rendDraws := rfl

/-! ### setup -/

@[simp] theorem State.setup_cfg (s : State) (ln : BitVec 16) : (s.setup ln).cfg = s.cfg := rfl
@[simp] theorem State.setup_hcount (s : State) (ln : BitVec 16) : (s.setup ln).hcount = s.hcount := rfl
@[simp] theorem State.setup_lineNumber (s : State) (ln : BitVec 16) : (s.setup ln).lineNumber = ln := rfl
@[simp] theorem State.setup_handler (s : State) (ln : BitVec 16) : (s.setup ln).handler = .kernel := rfl
@[simp] theorem State.setup_swPending (s : State) (ln : BitVec 16) : (s.setup ln).swPending = s.swPending := rfl
@[simp] theorem State.setup_swActive (s : State) (ln : BitVec 16) : (s.setup ln).swActive = s.swActive := rfl
@[simp] theorem State.setup_frameCount (s : State) (ln : BitVec 16) : (s.setup ln).frameCount = s.frameCount := rfl
@[simp] theorem State.setup_tileRowOffset (s : State) (ln : BitVec 16) : (s.setup ln).tileRowOffset =
    (if s.cfg.vscrollEn then scrollByte s.vFine else 0) := rfl
@[simp] theorem State.setup_rowPtr (s : State) (ln : BitVec 16) : (s.setup ln).rowPtr = 0 := rfl
@[simp] theorem State.setup_fontBase (s : State) (ln : BitVec 16) : (s.setup ln).fontBase = s.fontBase := rfl
@[simp] theorem State.setup_ramtBase (s : State) (ln : BitVec 16) : (s.setup ln).ramtBase = s.ramtBase := rfl
@[simp] theorem State.setup_hFine (s : State) (ln : BitVec 16) : (s.setup ln).hFine = s.hFine := rfl
@[simp] theorem State.setup_vFine (s : State) (ln : BitVec 16) : (s.setup ln).vFine = s.vFine := rfl
@[simp] theorem State.setup_hTrim (s : State) (ln : BitVec 16) : (s.setup ln).hTrim = s.hTrim := rfl
@[simp] theorem State.setup_vTrim (s : State) (ln : BitVec 16) : (s.setup ln).vTrim = s.vTrim := rfl
@[simp] theorem State.setup_vTrimL (s : State) (ln : BitVec 16) : (s.setup ln).vTrimL = s.vTrimL := rfl
@[simp] theorem State.setup_lh (s : State) (ln : BitVec 16) : (s.setup ln).lh = s.lh := rfl
@[simp] theorem State.setup_ltrim (s : State) (ln : BitVec 16) : (s.setup ln).ltrim = s.ltrim := rfl
@[simp] theorem State.setup_lfont (s : State) (ln : BitVec 16) : (s.setup ln).lfont = s.lfont := rfl
@[simp] theorem State.setup_lram (s : State) (ln : BitVec 16) : (s.setup ln).lram = s.lram := rfl
@[simp] theorem State.setup_rendering (s : State) (ln : BitVec 16) : (s.setup ln).rendering = s.rendering := rfl
@[simp] theorem State.setup_cell (s : State) (ln : BitVec 16) : (s.setup ln).cell = s.cell := rfl
@[simp] theorem State.setup_cur (s : State) (ln : BitVec 16) : (s.setup ln).cur = s.cur := rfl
@[simp] theorem State.setup_irqQ (s : State) (ln : BitVec 16) : (s.setup ln).irqQ = s.irqQ := rfl
@[simp] theorem State.setup_eodQ (s : State) (ln : BitVec 16) : (s.setup ln).eodQ = s.eodQ := rfl
@[simp] theorem State.setup_screen (s : State) (ln : BitVec 16) : (s.setup ln).screen = s.screen := rfl
@[simp] theorem State.setup_ramt (s : State) (ln : BitVec 16) : (s.setup ln).ramt = s.ramt := rfl
@[simp] theorem State.setup_inputs (s : State) (ln : BitVec 16) : (s.setup ln).inputs = s.inputs := rfl
@[simp] theorem State.setup_hRdata (s : State) (ln : BitVec 16) : (s.setup ln).hRdata = s.hRdata := rfl
@[simp] theorem State.setup_hostDraws (s : State) (ln : BitVec 16) : (s.setup ln).hostDraws = s.hostDraws := rfl
@[simp] theorem State.setup_rendDraws (s : State) (ln : BitVec 16) : (s.setup ln).rendDraws = s.rendDraws := rfl

/-! ### hostRead -/

@[simp] theorem State.hostRead_cfg (s : State) (sp : Space) (a : Addr) : (s.hostRead sp a).cfg = s.cfg := rfl
@[simp] theorem State.hostRead_hcount (s : State) (sp : Space) (a : Addr) : (s.hostRead sp a).hcount = s.hcount := rfl
@[simp] theorem State.hostRead_lineNumber (s : State) (sp : Space) (a : Addr) : (s.hostRead sp a).lineNumber = s.lineNumber := rfl
@[simp] theorem State.hostRead_handler (s : State) (sp : Space) (a : Addr) : (s.hostRead sp a).handler = s.handler := rfl
@[simp] theorem State.hostRead_swPending (s : State) (sp : Space) (a : Addr) : (s.hostRead sp a).swPending = s.swPending := rfl
@[simp] theorem State.hostRead_swActive (s : State) (sp : Space) (a : Addr) : (s.hostRead sp a).swActive = s.swActive := rfl
@[simp] theorem State.hostRead_frameCount (s : State) (sp : Space) (a : Addr) : (s.hostRead sp a).frameCount = s.frameCount := rfl
@[simp] theorem State.hostRead_tileRowOffset (s : State) (sp : Space) (a : Addr) : (s.hostRead sp a).tileRowOffset = s.tileRowOffset := rfl
@[simp] theorem State.hostRead_rowPtr (s : State) (sp : Space) (a : Addr) : (s.hostRead sp a).rowPtr = s.rowPtr := rfl
@[simp] theorem State.hostRead_fontBase (s : State) (sp : Space) (a : Addr) : (s.hostRead sp a).fontBase = s.fontBase := rfl
@[simp] theorem State.hostRead_ramtBase (s : State) (sp : Space) (a : Addr) : (s.hostRead sp a).ramtBase = s.ramtBase := rfl
@[simp] theorem State.hostRead_hFine (s : State) (sp : Space) (a : Addr) : (s.hostRead sp a).hFine = s.hFine := rfl
@[simp] theorem State.hostRead_vFine (s : State) (sp : Space) (a : Addr) : (s.hostRead sp a).vFine = s.vFine := rfl
@[simp] theorem State.hostRead_hTrim (s : State) (sp : Space) (a : Addr) : (s.hostRead sp a).hTrim = s.hTrim := rfl
@[simp] theorem State.hostRead_vTrim (s : State) (sp : Space) (a : Addr) : (s.hostRead sp a).vTrim = s.vTrim := rfl
@[simp] theorem State.hostRead_vTrimL (s : State) (sp : Space) (a : Addr) : (s.hostRead sp a).vTrimL = s.vTrimL := rfl
@[simp] theorem State.hostRead_lh (s : State) (sp : Space) (a : Addr) : (s.hostRead sp a).lh = s.lh := rfl
@[simp] theorem State.hostRead_ltrim (s : State) (sp : Space) (a : Addr) : (s.hostRead sp a).ltrim = s.ltrim := rfl
@[simp] theorem State.hostRead_lfont (s : State) (sp : Space) (a : Addr) : (s.hostRead sp a).lfont = s.lfont := rfl
@[simp] theorem State.hostRead_lram (s : State) (sp : Space) (a : Addr) : (s.hostRead sp a).lram = s.lram := rfl
@[simp] theorem State.hostRead_rendering (s : State) (sp : Space) (a : Addr) : (s.hostRead sp a).rendering = s.rendering := rfl
@[simp] theorem State.hostRead_cell (s : State) (sp : Space) (a : Addr) : (s.hostRead sp a).cell = s.cell := rfl
@[simp] theorem State.hostRead_cur (s : State) (sp : Space) (a : Addr) : (s.hostRead sp a).cur = s.cur := rfl
@[simp] theorem State.hostRead_irqQ (s : State) (sp : Space) (a : Addr) : (s.hostRead sp a).irqQ = s.irqQ := rfl
@[simp] theorem State.hostRead_eodQ (s : State) (sp : Space) (a : Addr) : (s.hostRead sp a).eodQ = s.eodQ := rfl
@[simp] theorem State.hostRead_screen (s : State) (sp : Space) (a : Addr) : (s.hostRead sp a).screen = s.screen := rfl
@[simp] theorem State.hostRead_ramt (s : State) (sp : Space) (a : Addr) : (s.hostRead sp a).ramt = s.ramt := rfl
@[simp] theorem State.hostRead_inputs (s : State) (sp : Space) (a : Addr) : (s.hostRead sp a).inputs = s.inputs := rfl
@[simp] theorem State.hostRead_hRdata (s : State) (sp : Space) (a : Addr) : (s.hostRead sp a).hRdata =
    (s.memRead sp a (Config.hostUnpopulated s.hostDraws)) := rfl
@[simp] theorem State.hostRead_hostDraws (s : State) (sp : Space) (a : Addr) : (s.hostRead sp a).hostDraws =
    (if populated s.cfg sp a then s.hostDraws else s.hostDraws + 1) := rfl
@[simp] theorem State.hostRead_rendDraws (s : State) (sp : Space) (a : Addr) : (s.hostRead sp a).rendDraws = s.rendDraws := rfl

/-! ### fetchCell -/

@[simp] theorem State.fetchCell_cfg (s : State) (col : Nat) : (s.fetchCell col).cfg = s.cfg := rfl
@[simp] theorem State.fetchCell_hcount (s : State) (col : Nat) : (s.fetchCell col).hcount = s.hcount := rfl
@[simp] theorem State.fetchCell_lineNumber (s : State) (col : Nat) : (s.fetchCell col).lineNumber = s.lineNumber := rfl
@[simp] theorem State.fetchCell_handler (s : State) (col : Nat) : (s.fetchCell col).handler = s.handler := rfl
@[simp] theorem State.fetchCell_swPending (s : State) (col : Nat) : (s.fetchCell col).swPending = s.swPending := rfl
@[simp] theorem State.fetchCell_swActive (s : State) (col : Nat) : (s.fetchCell col).swActive = s.swActive := rfl
@[simp] theorem State.fetchCell_frameCount (s : State) (col : Nat) : (s.fetchCell col).frameCount = s.frameCount := rfl
@[simp] theorem State.fetchCell_tileRowOffset (s : State) (col : Nat) : (s.fetchCell col).tileRowOffset = s.tileRowOffset := rfl
@[simp] theorem State.fetchCell_rowPtr (s : State) (col : Nat) : (s.fetchCell col).rowPtr = s.rowPtr := rfl
@[simp] theorem State.fetchCell_fontBase (s : State) (col : Nat) : (s.fetchCell col).fontBase = s.fontBase := rfl
@[simp] theorem State.fetchCell_ramtBase (s : State) (col : Nat) : (s.fetchCell col).ramtBase = s.ramtBase := rfl
@[simp] theorem State.fetchCell_hFine (s : State) (col : Nat) : (s.fetchCell col).hFine = s.hFine := rfl
@[simp] theorem State.fetchCell_vFine (s : State) (col : Nat) : (s.fetchCell col).vFine = s.vFine := rfl
@[simp] theorem State.fetchCell_hTrim (s : State) (col : Nat) : (s.fetchCell col).hTrim = s.hTrim := rfl
@[simp] theorem State.fetchCell_vTrim (s : State) (col : Nat) : (s.fetchCell col).vTrim = s.vTrim := rfl
@[simp] theorem State.fetchCell_vTrimL (s : State) (col : Nat) : (s.fetchCell col).vTrimL = s.vTrimL := rfl
@[simp] theorem State.fetchCell_lh (s : State) (col : Nat) : (s.fetchCell col).lh = s.lh := rfl
@[simp] theorem State.fetchCell_ltrim (s : State) (col : Nat) : (s.fetchCell col).ltrim = s.ltrim := rfl
@[simp] theorem State.fetchCell_lfont (s : State) (col : Nat) : (s.fetchCell col).lfont = s.lfont := rfl
@[simp] theorem State.fetchCell_lram (s : State) (col : Nat) : (s.fetchCell col).lram = s.lram := rfl
@[simp] theorem State.fetchCell_rendering (s : State) (col : Nat) : (s.fetchCell col).rendering = s.rendering := rfl
@[simp] theorem State.fetchCell_cell (s : State) (col : Nat) : (s.fetchCell col).cell =
    (s.memRead .screen (s.scrAddr col) (Config.rendererUnpopulated s.rendDraws)) := rfl
@[simp] theorem State.fetchCell_cur (s : State) (col : Nat) : (s.fetchCell col).cur = s.cur := rfl
@[simp] theorem State.fetchCell_irqQ (s : State) (col : Nat) : (s.fetchCell col).irqQ = s.irqQ := rfl
@[simp] theorem State.fetchCell_eodQ (s : State) (col : Nat) : (s.fetchCell col).eodQ = s.eodQ := rfl
@[simp] theorem State.fetchCell_screen (s : State) (col : Nat) : (s.fetchCell col).screen = s.screen := rfl
@[simp] theorem State.fetchCell_ramt (s : State) (col : Nat) : (s.fetchCell col).ramt = s.ramt := rfl
@[simp] theorem State.fetchCell_inputs (s : State) (col : Nat) : (s.fetchCell col).inputs = s.inputs := rfl
@[simp] theorem State.fetchCell_hRdata (s : State) (col : Nat) : (s.fetchCell col).hRdata = s.hRdata := rfl
@[simp] theorem State.fetchCell_hostDraws (s : State) (col : Nat) : (s.fetchCell col).hostDraws = s.hostDraws := rfl
@[simp] theorem State.fetchCell_rendDraws (s : State) (col : Nat) : (s.fetchCell col).rendDraws =
    (if populated s.cfg .screen (s.scrAddr col) then s.rendDraws else s.rendDraws + 1) := rfl

/-! ### fetchTile -/

@[simp] theorem State.fetchTile_cfg (s : State) : s.fetchTile.cfg = s.cfg := rfl
@[simp] theorem State.fetchTile_hcount (s : State) : s.fetchTile.hcount = s.hcount := rfl
@[simp] theorem State.fetchTile_lineNumber (s : State) : s.fetchTile.lineNumber = s.lineNumber := rfl
@[simp] theorem State.fetchTile_handler (s : State) : s.fetchTile.handler = s.handler := rfl
@[simp] theorem State.fetchTile_swPending (s : State) : s.fetchTile.swPending = s.swPending := rfl
@[simp] theorem State.fetchTile_swActive (s : State) : s.fetchTile.swActive = s.swActive := rfl
@[simp] theorem State.fetchTile_frameCount (s : State) : s.fetchTile.frameCount = s.frameCount := rfl
@[simp] theorem State.fetchTile_tileRowOffset (s : State) : s.fetchTile.tileRowOffset = s.tileRowOffset := rfl
@[simp] theorem State.fetchTile_rowPtr (s : State) : s.fetchTile.rowPtr = s.rowPtr := rfl
@[simp] theorem State.fetchTile_fontBase (s : State) : s.fetchTile.fontBase = s.fontBase := rfl
@[simp] theorem State.fetchTile_ramtBase (s : State) : s.fetchTile.ramtBase = s.ramtBase := rfl
@[simp] theorem State.fetchTile_hFine (s : State) : s.fetchTile.hFine = s.hFine := rfl
@[simp] theorem State.fetchTile_vFine (s : State) : s.fetchTile.vFine = s.vFine := rfl
@[simp] theorem State.fetchTile_hTrim (s : State) : s.fetchTile.hTrim = s.hTrim := rfl
@[simp] theorem State.fetchTile_vTrim (s : State) : s.fetchTile.vTrim = s.vTrim := rfl
@[simp] theorem State.fetchTile_vTrimL (s : State) : s.fetchTile.vTrimL = s.vTrimL := rfl
@[simp] theorem State.fetchTile_lh (s : State) : s.fetchTile.lh = s.lh := rfl
@[simp] theorem State.fetchTile_ltrim (s : State) : s.fetchTile.ltrim = s.ltrim := rfl
@[simp] theorem State.fetchTile_lfont (s : State) : s.fetchTile.lfont = s.lfont := rfl
@[simp] theorem State.fetchTile_lram (s : State) : s.fetchTile.lram = s.lram := rfl
@[simp] theorem State.fetchTile_rendering (s : State) : s.fetchTile.rendering = s.rendering := rfl
@[simp] theorem State.fetchTile_cell (s : State) : s.fetchTile.cell = s.cell := rfl
@[simp] theorem State.fetchTile_cur (s : State) : s.fetchTile.cur =
    (s.memRead (bankOf s.cfg s.cell) (s.cellAddr s.cell) (Config.rendererUnpopulated s.rendDraws)) := rfl
@[simp] theorem State.fetchTile_irqQ (s : State) : s.fetchTile.irqQ = s.irqQ := rfl
@[simp] theorem State.fetchTile_eodQ (s : State) : s.fetchTile.eodQ = s.eodQ := rfl
@[simp] theorem State.fetchTile_screen (s : State) : s.fetchTile.screen = s.screen := rfl
@[simp] theorem State.fetchTile_ramt (s : State) : s.fetchTile.ramt = s.ramt := rfl
@[simp] theorem State.fetchTile_inputs (s : State) : s.fetchTile.inputs = s.inputs := rfl
@[simp] theorem State.fetchTile_hRdata (s : State) : s.fetchTile.hRdata = s.hRdata := rfl
@[simp] theorem State.fetchTile_hostDraws (s : State) : s.fetchTile.hostDraws = s.hostDraws := rfl
@[simp] theorem State.fetchTile_rendDraws (s : State) : s.fetchTile.rendDraws =
    (if populated s.cfg (bankOf s.cfg s.cell) (s.cellAddr s.cell) then s.rendDraws else s.rendDraws + 1) := rfl

/-! ### commit -/

@[simp] theorem commit_cfg (h r : State) : (commit h r).cfg = r.cfg := rfl
@[simp] theorem commit_hcount (h r : State) : (commit h r).hcount = r.hcount := rfl
@[simp] theorem commit_lineNumber (h r : State) : (commit h r).lineNumber = r.lineNumber := rfl
@[simp] theorem commit_handler (h r : State) : (commit h r).handler = r.handler := rfl
@[simp] theorem commit_swPending (h r : State) : (commit h r).swPending = r.swPending := rfl
@[simp] theorem commit_swActive (h r : State) : (commit h r).swActive = r.swActive := rfl
@[simp] theorem commit_frameCount (h r : State) : (commit h r).frameCount = r.frameCount := rfl
@[simp] theorem commit_tileRowOffset (h r : State) : (commit h r).tileRowOffset = r.tileRowOffset := rfl
@[simp] theorem commit_rowPtr (h r : State) : (commit h r).rowPtr = r.rowPtr := rfl
@[simp] theorem commit_fontBase (h r : State) : (commit h r).fontBase = h.fontBase := rfl
@[simp] theorem commit_ramtBase (h r : State) : (commit h r).ramtBase = h.ramtBase := rfl
@[simp] theorem commit_hFine (h r : State) : (commit h r).hFine = h.hFine := rfl
@[simp] theorem commit_vFine (h r : State) : (commit h r).vFine = h.vFine := rfl
@[simp] theorem commit_hTrim (h r : State) : (commit h r).hTrim = h.hTrim := rfl
@[simp] theorem commit_vTrim (h r : State) : (commit h r).vTrim = h.vTrim := rfl
@[simp] theorem commit_vTrimL (h r : State) : (commit h r).vTrimL = r.vTrimL := rfl
@[simp] theorem commit_lh (h r : State) : (commit h r).lh = r.lh := rfl
@[simp] theorem commit_ltrim (h r : State) : (commit h r).ltrim = r.ltrim := rfl
@[simp] theorem commit_lfont (h r : State) : (commit h r).lfont = r.lfont := rfl
@[simp] theorem commit_lram (h r : State) : (commit h r).lram = r.lram := rfl
@[simp] theorem commit_rendering (h r : State) : (commit h r).rendering = r.rendering := rfl
@[simp] theorem commit_cell (h r : State) : (commit h r).cell = r.cell := rfl
@[simp] theorem commit_cur (h r : State) : (commit h r).cur = r.cur := rfl
@[simp] theorem commit_irqQ (h r : State) : (commit h r).irqQ = r.irqQ := rfl
@[simp] theorem commit_eodQ (h r : State) : (commit h r).eodQ = r.eodQ := rfl
@[simp] theorem commit_screen (h r : State) : (commit h r).screen = h.screen := rfl
@[simp] theorem commit_ramt (h r : State) : (commit h r).ramt = h.ramt := rfl
@[simp] theorem commit_inputs (h r : State) : (commit h r).inputs = r.inputs := rfl
@[simp] theorem commit_hRdata (h r : State) : (commit h r).hRdata = h.hRdata := rfl
@[simp] theorem commit_hostDraws (h r : State) : (commit h r).hostDraws = h.hostDraws := rfl
@[simp] theorem commit_rendDraws (h r : State) : (commit h r).rendDraws = r.rendDraws := rfl

/-! ### resetOf -/

@[simp] theorem State.resetOf_cfg (c : Cfg) : (State.resetOf c).cfg = c := rfl
@[simp] theorem State.resetOf_hcount (c : Cfg) : (State.resetOf c).hcount = 0 := rfl
@[simp] theorem State.resetOf_lineNumber (c : Cfg) : (State.resetOf c).lineNumber = 0 := rfl
@[simp] theorem State.resetOf_handler (c : Cfg) : (State.resetOf c).handler = .inactive := rfl
@[simp] theorem State.resetOf_swPending (c : Cfg) : (State.resetOf c).swPending = .h := rfl
@[simp] theorem State.resetOf_swActive (c : Cfg) : (State.resetOf c).swActive = .h := rfl
@[simp] theorem State.resetOf_frameCount (c : Cfg) : (State.resetOf c).frameCount = 0 := rfl
@[simp] theorem State.resetOf_tileRowOffset (c : Cfg) : (State.resetOf c).tileRowOffset = 0 := rfl
@[simp] theorem State.resetOf_rowPtr (c : Cfg) : (State.resetOf c).rowPtr = 0 := rfl
@[simp] theorem State.resetOf_fontBase (c : Cfg) : (State.resetOf c).fontBase = 0 := rfl
@[simp] theorem State.resetOf_ramtBase (c : Cfg) : (State.resetOf c).ramtBase = 0 := rfl
@[simp] theorem State.resetOf_hFine (c : Cfg) : (State.resetOf c).hFine = 0 := rfl
@[simp] theorem State.resetOf_vFine (c : Cfg) : (State.resetOf c).vFine = 0 := rfl
@[simp] theorem State.resetOf_hTrim (c : Cfg) : (State.resetOf c).hTrim = 0 := rfl
@[simp] theorem State.resetOf_vTrim (c : Cfg) : (State.resetOf c).vTrim = 0 := rfl
@[simp] theorem State.resetOf_vTrimL (c : Cfg) : (State.resetOf c).vTrimL = 0 := rfl
@[simp] theorem State.resetOf_lh (c : Cfg) : (State.resetOf c).lh = 0 := rfl
@[simp] theorem State.resetOf_ltrim (c : Cfg) : (State.resetOf c).ltrim = 0 := rfl
@[simp] theorem State.resetOf_lfont (c : Cfg) : (State.resetOf c).lfont = 0 := rfl
@[simp] theorem State.resetOf_lram (c : Cfg) : (State.resetOf c).lram = 0 := rfl
@[simp] theorem State.resetOf_rendering (c : Cfg) : (State.resetOf c).rendering = false := rfl
@[simp] theorem State.resetOf_cell (c : Cfg) : (State.resetOf c).cell = 0 := rfl
@[simp] theorem State.resetOf_cur (c : Cfg) : (State.resetOf c).cur = 0 := rfl
@[simp] theorem State.resetOf_irqQ (c : Cfg) : (State.resetOf c).irqQ = false := rfl
@[simp] theorem State.resetOf_eodQ (c : Cfg) : (State.resetOf c).eodQ = false := rfl
@[simp] theorem State.resetOf_screen (c : Cfg) : (State.resetOf c).screen = [] := rfl
@[simp] theorem State.resetOf_ramt (c : Cfg) : (State.resetOf c).ramt = [] := rfl
@[simp] theorem State.resetOf_inputs (c : Cfg) : (State.resetOf c).inputs = [] := rfl
@[simp] theorem State.resetOf_hRdata (c : Cfg) : (State.resetOf c).hRdata = 0 := rfl
@[simp] theorem State.resetOf_hostDraws (c : Cfg) : (State.resetOf c).hostDraws = 0 := rfl
@[simp] theorem State.resetOf_rendDraws (c : Cfg) : (State.resetOf c).rendDraws = 0 := rfl

end Sys2Proof.Machine
end

