-- ==== Sys2Proof/Laws/Memory.lean ====
section
/-! SUPPORT. The laws of the writable memories: a read after a write, every other byte unchanged, the canonical form
kept, and reset's memories in it. -/

namespace Sys2Proof.Machine

/-- A read after a write gives the value written there and leaves every other address alone. -/
theorem Memory.find_write (m : Memory) (x y : Nat) (v : Byte) :
    Memory.find (Memory.write m x v) y = if y = x then some v else Memory.find m y := by
  induction m with
  | nil => simp [Memory.write, Memory.find]
  | cons p m ih =>
    obtain ⟨a, b⟩ := p
    by_cases h1 : x < a
    · simp [Memory.write, h1, Memory.find]
    · by_cases h2 : x = a
      · subst h2
        by_cases h3 : y = x <;> simp [Memory.write, Memory.find, h3]
      · simp only [Memory.write, h1, h2, if_false, Memory.find, ih]
        by_cases h3 : y = a
        · subst h3
          simp [Ne.symm h2]
        · simp [h3]

@[simp] theorem Memory.find_write_same (m : Memory) (x : Nat) (v : Byte) :
    Memory.find (Memory.write m x v) x = some v := by simp [Memory.find_write]

theorem Memory.find_write_other (m : Memory) {x y : Nat} (v : Byte) (h : y ≠ x) :
    Memory.find (Memory.write m x v) y = Memory.find m y := by simp [Memory.find_write, h]

/-- The canonical form of a non-empty memory, in terms of its first entry. -/
theorem Memory.wf_cons_iff (bound a : Nat) (b : Byte) (m : Memory) :
    Memory.wf bound ((a, b) :: m) = true ↔
      a < bound ∧ (∀ p ∈ m.head?, a < p.1) ∧ Memory.wf bound m = true := by
  induction m generalizing a b with
  | nil => simp [Memory.wf]
  | cons p m ih =>
    obtain ⟨c, d⟩ := p
    simp only [Memory.wf, Bool.and_eq_true, decide_eq_true_eq, List.head?_cons, Option.mem_some_iff,
      forall_eq']
    constructor
    · rintro ⟨h1, h2⟩
      have := ((ih c d).1 h2).1
      exact ⟨by omega, h1, h2⟩
    · rintro ⟨-, h2, h3⟩
      exact ⟨h2, h3⟩

/-- The first address of a memory after a write: the one written, or the one that was first. -/
theorem Memory.head_write (m : Memory) (x : Nat) (v : Byte) (p : Host.Cell)
    (h : p ∈ (Memory.write m x v).head?) : p.1 = x ∨ p ∈ m.head? := by
  cases m with
  | nil => simp [Memory.write] at h; left; rw [← h]
  | cons q m =>
    obtain ⟨a, b⟩ := q
    by_cases h1 : x < a
    · simp [Memory.write, h1] at h; left; rw [← h]
    · by_cases h2 : x = a
      · simp [Memory.write, h2] at h; left; rw [← h, h2]
      · simp [Memory.write, h1, h2] at h; right; simp [h]

/-- A write inside the bound keeps the canonical form. -/
theorem Memory.write_wf (bound : Nat) (m : Memory) (x : Nat) (v : Byte) (hx : x < bound)
    (h : Memory.wf bound m = true) : Memory.wf bound (Memory.write m x v) = true := by
  induction m with
  | nil => simp [Memory.write, Memory.wf, hx]
  | cons q m ih =>
    obtain ⟨a, b⟩ := q
    have ⟨ha, hm, hw⟩ := (Memory.wf_cons_iff bound a b m).1 h
    by_cases h1 : x < a
    · simp [Memory.write, h1, Memory.wf, h]
    · by_cases h2 : x = a
      · subst h2
        simpa [Memory.write] using (Memory.wf_cons_iff bound x v m).2 ⟨ha, hm, hw⟩
      · simp only [Memory.write, h1, h2, if_false]
        refine (Memory.wf_cons_iff bound a b _).2 ⟨ha, ?_, ih hw⟩
        intro p hp
        rcases Memory.head_write m x v p hp with h3 | h3
        · omega
        · exact hm p h3

theorem State.reset_memory_wf (b1 b2 : Nat) :
    Memory.wf b1 State.reset.screen = true ∧ Memory.wf b2 State.reset.ramt = true := ⟨rfl, rfl⟩

/-! ## MemWrite over State -/

/-- MemWrite changes SCREEN and RAMT and nothing else. -/
theorem State.memWrite_eq (s : State) (sp : Space) (a : Addr) (v : Byte) :
    s.memWrite sp a v = { s with
      screen := (s.memWrite sp a v).screen
      ramt := (s.memWrite sp a v).ramt } := by
  unfold State.memWrite
  split
  · cases sp <;> rfl
  · rfl

/-- A write to an unpopulated address is dropped (spec/20_memory.md R73). -/
theorem State.memWrite_unpopulated (s : State) (sp : Space) (a : Addr) (v : Byte)
    (h : populated s.cfg sp a = false) : s.memWrite sp a v = s := by simp [State.memWrite, h]

/-- What every byte of SCREEN reads as after a write of SCREEN. -/
theorem State.stored_memWrite_screen (s : State) (a b : Addr) (v : Byte) :
    (s.memWrite .screen a v).stored .screen b =
      if populated s.cfg .screen a = true ∧ b = a then v else s.stored .screen b := by
  by_cases h : populated s.cfg .screen a = true
  · by_cases hb : b = a
    · subst hb
      simp [State.memWrite, h, State.stored]
    · have : b.toNat ≠ a.toNat := fun e => hb (BitVec.eq_of_toNat_eq e)
      simp [State.memWrite, h, State.stored, hb, Memory.find_write_other _ _ this]
  · simp [State.memWrite, h]

/-- What every byte of RAMT reads as after a write of RAMT. -/
theorem State.stored_memWrite_ramt (s : State) (a b : Addr) (v : Byte) :
    (s.memWrite .ramt a v).stored .ramt b =
      if populated s.cfg .ramt a = true ∧ b = a then v else s.stored .ramt b := by
  by_cases h : populated s.cfg .ramt a = true
  · by_cases hb : b = a
    · subst hb
      simp [State.memWrite, h, State.stored]
    · have : b.toNat ≠ a.toNat := fun e => hb (BitVec.eq_of_toNat_eq e)
      simp [State.memWrite, h, State.stored, hb, Memory.find_write_other _ _ this]
  · simp [State.memWrite, h]

/-- A write of SCREEN leaves RAMT alone. -/
theorem State.memWrite_screen_ramt (s : State) (a : Addr) (v : Byte) :
    (s.memWrite .screen a v).ramt = s.ramt := by
  unfold State.memWrite; split <;> rfl

/-- A write of RAMT leaves SCREEN alone. -/
theorem State.memWrite_ramt_screen (s : State) (a : Addr) (v : Byte) :
    (s.memWrite .ramt a v).screen = s.screen := by
  unfold State.memWrite; split <;> rfl

/-- SCREEN keeps its canonical form under a write of it. -/
theorem State.memWrite_screen_wf (s : State) (a : Addr) (v : Byte)
    (h : Memory.wf s.cfg.screenBytes s.screen = true) :
    Memory.wf s.cfg.screenBytes (s.memWrite .screen a v).screen = true := by
  by_cases hp : populated s.cfg .screen a = true
  · have hb : a.toNat < s.cfg.screenBytes := by simpa [populated] using hp
    simpa [State.memWrite, hp] using Memory.write_wf _ _ _ _ hb h
  · simpa [State.memWrite, hp] using h

/-- RAMT keeps its canonical form under a write of it. -/
theorem State.memWrite_ramt_wf (s : State) (a : Addr) (v : Byte)
    (h : Memory.wf (if s.cfg.hasRam then s.cfg.ramBytes else 0) s.ramt = true) :
    Memory.wf (if s.cfg.hasRam then s.cfg.ramBytes else 0) (s.memWrite .ramt a v).ramt = true := by
  by_cases hp : populated s.cfg .ramt a = true
  · have ⟨hr, hb⟩ : s.cfg.hasRam = true ∧ a.toNat < s.cfg.ramBytes := by simpa [populated] using hp
    simp only [hr, if_true] at h ⊢
    simpa [State.memWrite, hp] using Memory.write_wf _ _ _ _ hb h
  · simpa [State.memWrite, hp] using h

end Sys2Proof.Machine
end

