-- ==== Sys2Proof/Laws/Ops.lean ====
section
/-! SUPPORT. One lemma per shared operation that says once everything it can do. Later proofs cite these and do not
unfold the operations. -/

namespace Sys2Proof.Machine

/-- K.begin answers a next state exactly when the trim contract holds, and then this one. -/
theorem kBegin_next_iff (scroll : Scroll) (s t : State) :
    kBegin scroll s = .next t ↔
      s.cfg.hTrimOk s.hTrim = true ∧
      t = { s with
        lineNumber := s.lineNumber + 1
        rendering := true
        lh := scroll
        ltrim := if s.cfg.trimEn then s.hTrim else 0
        lfont := s.fontBase
        lram := s.ramtBase } := by
  unfold kBegin
  split
  · rename_i h
    simp only [Host.Outcome.next.injEq, h, true_and]
    exact eq_comm
  · rename_i h
    simp [h]

/-- Outside the contract K.begin is refused by name. -/
theorem kBegin_refused (scroll : Scroll) (s : State) (h : s.cfg.hTrimOk s.hTrim = false) :
    kBegin scroll s = .refused .hTrimOutsideContract := by simp [kBegin, h]

/-- LINE.INACTIVE: what each of its four ways to a next state leaves. -/
theorem execLineInactive_next (s t : State) (h : execLineInactive s = .next t) :
    (s.atWrap (s.lineNumber + 1) = true ∧ s.cfg.vTrimOk s.vTrim = true ∧ t = s.wrap.raiseIrq) ∨
    (s.atWrap (s.lineNumber + 1) = false ∧ s.atVsyncEnd (s.lineNumber + 1) = true ∧
      t = (s.vsyncEndTo (s.lineNumber + 1)).raiseIrq) ∨
    (s.atWrap (s.lineNumber + 1) = false ∧ s.atVsyncEnd (s.lineNumber + 1) = false ∧
      s.atActiveStart (s.lineNumber + 1) = true ∧ t = (s.setup (s.lineNumber + 1)).raiseIrq) ∨
    (s.atWrap (s.lineNumber + 1) = false ∧ s.atVsyncEnd (s.lineNumber + 1) = false ∧
      s.atActiveStart (s.lineNumber + 1) = false ∧
      t = { s with lineNumber := s.lineNumber + 1, irqQ := true }) := by
  simp only [execLineInactive] at h
  split at h
  · rename_i hw
    split at h
    · rename_i hv
      injection h with h
      exact .inl ⟨hw, hv, h.symm⟩
    · simp at h
  · rename_i hw
    rw [Bool.not_eq_true] at hw
    split at h
    · rename_i hv
      injection h with h
      exact .inr (.inl ⟨hw, hv, h.symm⟩)
    · rename_i hv
      rw [Bool.not_eq_true] at hv
      split at h
      · rename_i ha
        injection h with h
        exact .inr (.inr (.inl ⟨hw, hv, ha, h.symm⟩))
      · rename_i ha
        rw [Bool.not_eq_true] at ha
        injection h with h
        exact .inr (.inr (.inr ⟨hw, hv, ha, h.symm⟩))

/-- The row advance changes the two row registers only. -/
theorem State.advanceRow_eq (s : State) :
    s.advanceRow = { s with
      tileRowOffset := if s.atLastTileRow then 0 else s.tileRowOffset + 1
      rowPtr := if s.atLastTileRow then s.rowPtr + BitVec.ofNat 16 s.cfg.bufCols else s.rowPtr } := by
  unfold State.advanceRow
  cases h : s.atLastTileRow <;> simp

/-- The hand-back changes `eod_q`, `handler` and `frame_count` only. -/
theorem State.handBack_eq (s : State) :
    s.handBack = { s with
      eodQ := if s.atLastLine then true else s.eodQ
      handler := if s.atLastLine then .inactive else s.handler
      frameCount := if s.atLastLine then s.frameCount + 1 else s.frameCount } := by
  unfold State.handBack
  cases h : s.atLastLine <;> simp

/-- Everything K.end does. -/
theorem State.kEnd_eq (s : State) :
    s.kEnd = { s with
      tileRowOffset := if s.atLastTileRow then 0 else s.tileRowOffset + 1
      rowPtr := if s.atLastTileRow then s.rowPtr + BitVec.ofNat 16 s.cfg.bufCols else s.rowPtr
      eodQ := if s.atLastLine then true else s.eodQ
      handler := if s.atLastLine then .inactive else s.handler
      frameCount := if s.atLastLine then s.frameCount + 1 else s.frameCount
      irqQ := true
      rendering := false } := by
  have h : s.advanceRow.atLastLine = s.atLastLine := by
    rw [State.advanceRow_eq]
    rfl
  unfold State.kEnd
  rw [State.handBack_eq, h, State.advanceRow_eq]
  rfl

/-- The four things a cycle of a kernel operation can do. -/
theorem kernelCycle_cases (s : State) :
    (s.rendering = false ∧ kernelCycle s = s) ∨
    (s.rendering = true ∧ ∃ col, s.columnDue 2 = some col ∧ kernelCycle s = s.fetchCell col) ∨
    (s.rendering = true ∧ s.columnDue 2 = none ∧ (∃ col, s.columnDue 1 = some col) ∧
      kernelCycle s = s.fetchTile) ∨
    (s.rendering = true ∧ s.columnDue 2 = none ∧ s.columnDue 1 = none ∧ s.kEndDue = true ∧
      kernelCycle s = s.kEnd) ∨
    (s.rendering = true ∧ s.columnDue 2 = none ∧ s.columnDue 1 = none ∧ s.kEndDue = false ∧
      kernelCycle s = s) := by
  unfold kernelCycle
  cases hr : s.rendering
  · simp
  · cases h2 : s.columnDue 2 with
    | some col => simp
    | none =>
      cases h1 : s.columnDue 1 with
      | some col => simp
      | none => cases hk : s.kEndDue <;> simp

/-- Both halves answer a next state exactly when each does, and it is their commit. -/
theorem joinHalves_next_iff (h r : Host.Outcome State Fault Refusal) (t : State) :
    joinHalves h r = .next t ↔ ∃ h' r', h = .next h' ∧ r = .next r' ∧ t = commit h' r' := by
  constructor
  · intro e
    cases h with
    | next h' =>
      cases r with
      | next r' =>
        injection e with e
        exact ⟨h', r', rfl, rfl, e.symm⟩
      | fault f => nomatch f
      | refused q => simp [joinHalves] at e
    | fault f => nomatch f
    | refused q => simp [joinHalves] at e
  · rintro ⟨h', r', rfl, rfl, rfl⟩
    rfl

/-- The counter: a tick, or one more. -/
theorem counterStep_next (s t : State) (h : counterStep s = .next t) :
    (s.atTick = true ∧ tick s = .next t) ∨ (s.atTick = false ∧ t = { s with hcount := s.hcount + 1 }) := by
  unfold counterStep at h
  split at h
  · rename_i ht
    exact .inl ⟨ht, h⟩
  · rename_i ht
    rw [Bool.not_eq_true] at ht
    injection h with h
    exact .inr ⟨ht, h.symm⟩

/-- The renderer's half answers only for a line that fits its period. -/
theorem rendererCycle_next (s t : State) (h : rendererCycle s = .next t) :
    (s.rendering = true → s.cfg.lineFits s.ltrim s.lh = true) ∧
    counterStep (kernelCycle s.clearStrobes) = .next t := by
  unfold rendererCycle at h
  split at h
  · simp at h
  · rename_i hc
    refine ⟨fun hr => ?_, h⟩
    simpa [hr] using hc

/-- What a step is: RESET alone, or both halves of a cycle (spec/60_exceptions.md R259). -/
theorem step_next_iff (s t : State) :
    step s = .next t ↔
      s.cfg.wellFormed = true ∧
      ((s.pins.rst = 1 ∧ exec .reset s.popInput = .next t) ∨
       (s.pins.rst = 0 ∧ ∃ h r, exec (decodeHb s.pins.hb) s.popInput = .next h ∧
          rendererCycle s.popInput = .next r ∧ t = commit h r)) := by
  have h01 : ∀ b : PinWord, b = 0 ∨ b = 1 := by decide
  unfold step cycleStep clockCycle
  cases hw : s.cfg.wellFormed
  · simp
  · rcases h01 s.pins.rst with h0 | h1
    · simp [h0, decodePin, joinHalves_next_iff]
    · simp [h1, decodePin]

end Sys2Proof.Machine
end

