-- ==== Sys2Proof/Laws/Host.lean ====
section
/-! SUPPORT. What every operation of format HB has in common, once for all of them. -/

namespace Sys2Proof.Machine

/-- A property of every well-formed operation with a host bus word holds of whatever a word decodes to. -/
theorem decodeHb_cases (P : Instr → Prop) (w : HbWord)
    (h : ∀ i : Instr, (∃ x, encode i = .hb x) → i.wellFormed = true → P i) : P (decodeHb w) := by
  unfold decodeHb
  split
  · exact h _ ⟨_, rfl⟩ rfl
  split
  · unfold decodeWrite
    split
    · unfold decodeRegWrite
      split <;> first | exact h _ ⟨_, rfl⟩ rfl | skip
      refine h _ ⟨_, rfl⟩ ?_
      simp only [Instr.wellFormed, reservedRegister, decide_eq_true_eq]
      by_contra hc
      generalize BitVec.toNat _ = n at *
      interval_cases n <;> simp_all
    split
    · exact h _ ⟨_, rfl⟩ rfl
    split
    · exact h _ ⟨_, rfl⟩ rfl
    · exact h _ ⟨_, rfl⟩ rfl
  split
  · unfold decodeRead
    split
    · unfold decodeRegRead
      split <;> first | exact h _ ⟨_, rfl⟩ rfl | skip
      refine h _ ⟨_, rfl⟩ ?_
      simp only [Instr.wellFormed, reservedRegister, decide_eq_true_eq]
      by_contra hc
      generalize BitVec.toNat _ = n at *
      interval_cases n <;> simp_all
    split
    · exact h _ ⟨_, rfl⟩ rfl
    split
    · exact h _ ⟨_, rfl⟩ rfl
    · exact h _ ⟨_, rfl⟩ rfl
  · exact h _ ⟨_, rfl⟩ rfl

/-- An operation of format HB answers a next state that differs from the old one in what the host owns only. -/
theorem exec_hb_next (i : Instr) (h : ∃ x, encode i = .hb x) (s : State) :
    ∃ t, exec i s = .next t ∧ t = commit t s := by
  have hw : ∀ sp a v, (s.memWrite sp a v).putRdata 0 = commit ((s.memWrite sp a v).putRdata 0) s := by
    intro sp a v
    rw [State.memWrite_eq]
    rfl
  obtain ⟨x, hx⟩ := h
  cases i <;> first | (simp [encode] at hx; done) | exact ⟨_, rfl, rfl⟩ | exact ⟨_, rfl, hw _ _ _⟩

/-- An operation of format HB keeps the canonical form of both memories. -/
theorem exec_hb_wf (i : Instr) (hi : ∃ x, encode i = .hb x) (s t : State) (h : exec i s = .next t)
    (h1 : Memory.wf s.cfg.screenBytes s.screen = true)
    (h2 : Memory.wf (if s.cfg.hasRam then s.cfg.ramBytes else 0) s.ramt = true) :
    Memory.wf s.cfg.screenBytes t.screen = true ∧
      Memory.wf (if s.cfg.hasRam then s.cfg.ramBytes else 0) t.ramt = true := by
  obtain ⟨x, hx⟩ := hi
  cases i <;> first
    | (simp [encode] at hx; done)
    | (have h' := h; simp only [exec] at h'; injection h' with h'; subst h'; exact ⟨h1, h2⟩)
    | skip
  · injection h with h
    subst h
    refine ⟨State.memWrite_screen_wf s _ _ h1, ?_⟩
    show Memory.wf _ (State.memWrite s .screen _ _).ramt = true
    rw [State.memWrite_screen_ramt]
    exact h2
  · injection h with h
    subst h
    refine ⟨?_, State.memWrite_ramt_wf s _ _ h2⟩
    show Memory.wf _ (State.memWrite s .ramt _ _).screen = true
    rw [State.memWrite_ramt_screen]
    exact h1

end Sys2Proof.Machine
end

