-- ==== Sys2Proof/Laws/Geometry.lean ====
section
/-! SUPPORT. What the well-formedness conditions W1 to W8 of a configuration give, in arithmetic form. -/

namespace Sys2Proof

theorem Cfg.wellFormed_iff (c : Cfg) :
    c.wellFormed = true ↔ c.w1 = true ∧ c.w2 = true ∧ c.w3 = true ∧ c.w4 = true ∧ c.w5 = true ∧ c.w6 = true ∧
      c.w7 = true ∧ c.w8 = true := by
  simp [Cfg.wellFormed, and_assoc]

/-- W1. -/
theorem Cfg.widths_of_wellFormed (c : Cfg) (h : c.wellFormed = true) :
    0 < c.hsyncW ∧ c.hsyncW < c.vsyncW ∧ c.vsyncW < c.hCycles ∧ c.hCycles ≤ 65536 := by
  simpa [Cfg.w1] using (c.wellFormed_iff.1 h).1

/-- W2. -/
theorem Cfg.lines_of_wellFormed (c : Cfg) (h : c.wellFormed = true) :
    2 ≤ c.vsyncEnd ∧ c.vsyncEnd < c.activeStart ∧ c.activeStart < c.activeEnd ∧
      c.activeEnd < c.linesPerFrame ∧ c.linesPerFrame ≤ 65535 := by
  simpa [Cfg.w2] using (c.wellFormed_iff.1 h).2.1

/-- W3. -/
theorem Cfg.sizes_of_wellFormed (c : Cfg) (h : c.wellFormed = true) :
    (c.cpp = 2 ∨ c.cpp = 4) ∧ 1 ≤ c.tileH ∧ c.tileH ≤ 256 ∧ 1 ≤ c.visCols ∧ 1 ≤ c.bufCols ∧ 1 ≤ c.bufRows ∧
      c.fetchCols ≤ 256 := by
  simpa [Cfg.w3] using (c.wellFormed_iff.1 h).2.2.1

/-- W4. -/
theorem Cfg.start_of_wellFormed (c : Cfg) (h : c.wellFormed = true) :
    c.hsyncW + c.scrollLead ≤ c.hStart ∧ 2 + c.scrollLead ≤ c.hStart := by
  simpa [Cfg.w4] using (c.wellFormed_iff.1 h).2.2.2.1

/-- W5. -/
theorem Cfg.budget_of_wellFormed (c : Cfg) (h : c.wellFormed = true) :
    c.hStart + c.slots * c.cpp + 2 ≤ c.hCycles := by
  simpa [Cfg.w5] using (c.wellFormed_iff.1 h).2.2.2.2.1

/-- W6. -/
theorem Cfg.tileH_of_vscroll (c : Cfg) (h : c.wellFormed = true) (hv : c.vscrollEn = true) : 8 ≤ c.tileH := by
  simpa [Cfg.w6, hv] using (c.wellFormed_iff.1 h).2.2.2.2.2.1

/-- W7. -/
theorem Cfg.buffer_of_wellFormed (c : Cfg) (h : c.wellFormed = true) :
    c.maxRow * c.bufCols + c.fetchCols ≤ c.screenBytes ∧ c.screenBytes ≤ 65536 := by
  simpa [Cfg.w7] using (c.wellFormed_iff.1 h).2.2.2.2.2.2.1

theorem Cfg.colCycles_pos (c : Cfg) (h : c.wellFormed = true) : 0 < c.colCycles := by
  have := (c.sizes_of_wellFormed h).1
  unfold Cfg.colCycles Cfg.ppt
  split <;> omega

/-- A column takes at least twelve cycles. -/
theorem Cfg.twelve_le_colCycles (c : Cfg) (h : c.wellFormed = true) : 12 ≤ c.colCycles := by
  have := (c.sizes_of_wellFormed h).1
  unfold Cfg.colCycles Cfg.ppt
  split <;> omega

theorem Cfg.fetchCols_pos (c : Cfg) (h : c.wellFormed = true) : 0 < c.fetchCols := by
  have := (c.sizes_of_wellFormed h).2.2.2.1
  unfold Cfg.fetchCols
  split <;> omega

/-- The slots of a line fill its columns. -/
theorem Cfg.slots_mul_cpp (c : Cfg) : c.slots * c.cpp = c.fetchCols * c.colCycles := by
  simp [Cfg.slots, Cfg.colCycles, Nat.mul_assoc]

/-- A trim of 0 keeps the vertical contract. -/
theorem Cfg.activeEff_zero (c : Cfg) (h : c.wellFormed = true) :
    (c.vsyncEnd : Int) < c.activeStartEff 0 ∧ c.activeEndEff 0 < c.linesPerFrame := by
  have := c.lines_of_wellFormed h
  simp only [Cfg.activeStartEff, Cfg.activeEndEff]
  simp
  omega

/-- Within the trim contract, every latched line fits its period. -/
theorem Cfg.lineFits_of_contract (c : Cfg) (h : c.wellFormed = true) (trim : Byte) (scroll : Scroll)
    (hs : c.hasHScroll = false → scroll = 0) (ht : c.hTrimOk trim = true) :
    c.lineFits (if c.trimEn then trim else 0) scroll = true := by
  have h4 := c.start_of_wellFormed h
  have h5 := c.budget_of_wellFormed h
  have hlead : scroll.toNat * c.cpp ≤ c.scrollLead := by
    unfold Cfg.scrollLead
    split
    · apply Nat.mul_le_mul_right
      have := scroll.isLt
      omega
    · rename_i hh
      rw [hs (by simpa using hh)]
      simp
  have hlead' : (scroll.toNat : Int) * c.cpp ≤ c.scrollLead := by exact_mod_cast hlead
  have hpos : (0 : Int) ≤ (scroll.toNat : Int) * c.cpp := by positivity
  have hmul : (c.slots : Int) * c.cpp = ((c.slots * c.cpp : Nat) : Int) := by push_cast; rfl
  unfold Cfg.hTrimOk at ht
  simp only [Cfg.lineFits, Cfg.lineStart, Cfg.lineEnd]
  cases hen : c.trimEn
  · simp
    omega
  · simp [hen] at ht
    simp
    omega

end Sys2Proof
end

