-- ==== Sys2Proof/Laws/Line.lean ====
section
/-! SUPPORT. The schedule of a rendered line and the region of a line, in arithmetic form. -/

namespace Sys2Proof.Machine

/-- The column that is due, read from the counter. -/
theorem State.columnDue_eq_some_iff (s : State) (lead col : Nat) (hc : 0 < s.cfg.colCycles) :
    s.columnDue lead = some col ↔
      col < s.cfg.fetchCols ∧ (s.hcount.toNat : Int) + lead = s.x0 + col * s.cfg.colCycles := by
  have hC : (0 : Int) < s.cfg.colCycles := by exact_mod_cast hc
  unfold State.columnDue
  simp only
  set d := (s.hcount.toNat : Int) + lead - s.x0 with hd
  constructor
  · intro h
    split at h
    · rename_i hh
      obtain ⟨h0, h1, h2⟩ := hh
      injection h with h
      have h3 : 0 ≤ d / (s.cfg.colCycles : Int) := Int.ediv_nonneg h0 hC.le
      have h4 : (col : Int) = d / (s.cfg.colCycles : Int) := by rw [← h]; exact Int.toNat_of_nonneg h3
      have h5 := Int.mul_ediv_add_emod d s.cfg.colCycles
      rw [h1, ← h4, mul_comm] at h5
      refine ⟨by rw [← h4] at h2; exact_mod_cast h2, ?_⟩
      omega
    · simp at h
  · rintro ⟨h1, h2⟩
    have h3 : d = (col : Int) * s.cfg.colCycles := by omega
    have h4 : d / (s.cfg.colCycles : Int) = col := by rw [h3]; exact Int.mul_ediv_cancel _ hC.ne'
    have h5 : d % (s.cfg.colCycles : Int) = 0 := by rw [h3]; exact Int.mul_emod_left _ _
    have h6 : 0 ≤ d := by rw [h3]; positivity
    rw [if_pos ⟨h6, h5, by rw [h4]; exact_mod_cast h1⟩, h4]
    simp

/-- A column ends no later than the line. -/
theorem State.column_le_xEnd (s : State) (col : Nat) (hc : col < s.cfg.fetchCols) :
    s.x0 + col * s.cfg.colCycles + s.cfg.colCycles ≤ s.xEnd := by
  have h1 : s.xEnd = s.x0 + (s.cfg.slots * s.cfg.cpp : Nat) := by
    simp [State.xEnd, State.x0, Cfg.lineEnd]
  have h2 : (col + 1) * s.cfg.colCycles ≤ s.cfg.fetchCols * s.cfg.colCycles := Nat.mul_le_mul_right _ hc
  have h3 : ((col : Int) + 1) * s.cfg.colCycles ≤ s.cfg.fetchCols * s.cfg.colCycles := by exact_mod_cast h2
  rw [h1, s.cfg.slots_mul_cpp]
  push_cast
  linarith

/-- The three events of a rendered line never fall in one cycle (spec/42_pixel_kernels.md R166, R172; log 16). -/
theorem State.columnDue_exclusive (s : State) (h : s.cfg.wellFormed = true) (lead col : Nat) (hl : lead = 1 ∨ lead = 2)
    (hd : s.columnDue lead = some col) : s.columnDue (3 - lead) = none ∧ s.kEndDue = false := by
  have hC := s.cfg.twelve_le_colCycles h
  obtain ⟨h1, h2⟩ := (s.columnDue_eq_some_iff lead col (by omega)).1 hd
  constructor
  · rw [← Option.not_isSome_iff_eq_none]
    intro hs
    obtain ⟨col', hs⟩ := Option.isSome_iff_exists.1 hs
    obtain ⟨h3, h4⟩ := (s.columnDue_eq_some_iff _ col' (by omega)).1 hs
    have h5 : ((3 - lead : Nat) : Int) - lead = ((col' : Int) - col) * s.cfg.colCycles := by
      rw [sub_mul]
      omega
    have h6 : (12 : Int) ≤ s.cfg.colCycles := by exact_mod_cast hC
    have h7 : ((3 - lead : Nat) : Int) - lead = 1 ∨ ((3 - lead : Nat) : Int) - lead = -1 := by omega
    rcases lt_trichotomy (col' : Int) col with hlt | heq | hgt
    · have : ((col' : Int) - col) * s.cfg.colCycles ≤ -1 * s.cfg.colCycles :=
        mul_le_mul_of_nonneg_right (by omega) (by omega)
      omega
    · rw [heq] at h5
      simp at h5
      omega
    · have : 1 * (s.cfg.colCycles : Int) ≤ ((col' : Int) - col) * s.cfg.colCycles :=
        mul_le_mul_of_nonneg_right (by omega) (by omega)
      omega
  · have h3 := s.column_le_xEnd col h1
    unfold State.kEndDue
    apply decide_eq_false
    omega

/-- The cycle in which the cell of a column is read. -/
theorem kernelCycle_of_cellDue (s : State) (col : Nat) (hr : s.rendering = true) (hd : s.columnDue 2 = some col) :
    kernelCycle s = s.fetchCell col := by
  simp [kernelCycle, hr, hd]

/-- The cycle in which the bitmap byte of a column is read. -/
theorem kernelCycle_of_tileDue (s : State) (col : Nat) (h : s.cfg.wellFormed = true) (hr : s.rendering = true)
    (hd : s.columnDue 1 = some col) : kernelCycle s = s.fetchTile := by
  have h2 : s.columnDue 2 = none := (s.columnDue_exclusive h 1 col (.inl rfl) hd).1
  simp [kernelCycle, hr, hd, h2]

/-- The cycle of K.end. -/
theorem kernelCycle_of_kEndDue (s : State) (h : s.cfg.wellFormed = true) (hr : s.rendering = true)
    (hk : s.kEndDue = true) : kernelCycle s = s.kEnd := by
  have hn : ∀ lead, lead = 1 ∨ lead = 2 → s.columnDue lead = none := by
    intro lead hl
    rw [← Option.not_isSome_iff_eq_none]
    intro hs
    obtain ⟨col, hs⟩ := Option.isSome_iff_exists.1 hs
    rw [(s.columnDue_exclusive h lead col hl hs).2] at hk
    simp at hk
  simp [kernelCycle, hr, hn 1 (.inl rfl), hn 2 (.inr rfl), hk]

/-- A cycle with none of the three events. -/
theorem kernelCycle_of_none (s : State) (h2 : s.columnDue 2 = none) (h1 : s.columnDue 1 = none)
    (hk : s.kEndDue = false) : kernelCycle s = s := by
  cases hr : s.rendering <;> simp [kernelCycle, hr, h1, h2, hk]

/-- The Active region as an interval. -/
theorem State.region_eq_active_iff (s : State) (h2 : 2 ≤ s.cfg.vsyncEnd) (ht : (s.cfg.vsyncEnd : Int) < s.asEff) :
    s.region = .active ↔ s.asEff ≤ s.lineNumber.toNat ∧ (s.lineNumber.toNat : Int) < s.aeEff := by
  unfold State.region State.regionOf
  repeat' split
  all_goals simp
  all_goals omega

/-- The line operations are the only operations of the sequencer. -/
theorem decodeSeq_cases (w : SeqWord) :
    decodeSeq w = .lineInactive ∨ decodeSeq w = .lineK6 ∨ decodeSeq w = .lineK8 ∨ decodeSeq w = .lineK8r ∨
      decodeSeq w = .lineK8rs := by
  revert w
  decide

/-- The tick is LINE.INACTIVE or K.begin with the scroll of the variant, as `handler` says. -/
theorem tick_eq (s : State) :
    tick s =
      if s.handler = .inactive then execLineInactive { s with hcount := 0, swActive := s.swPending }
      else kBegin (if s.cfg.hasHScroll then s.hFine else 0) { s with hcount := 0, swActive := s.swPending } := by
  have hs : ∀ v h, s.cfg.variant = v → s.handler = h → s.selector = h.bit ++ v.code := by
    intro v h hv hh
    unfold State.selector
    rw [hv, hh]
  unfold tick
  cases hh : s.handler <;> cases hv : s.cfg.variant <;> rw [hs _ _ hv hh] <;> simp [Cfg.hasHScroll, hv] <;> rfl

end Sys2Proof.Machine
end

