-- ==== Sys2Proof/Laws/Cycle.lean ====
section
/-! SUPPORT. A clock cycle taken apart: the host's half always answers, what the renderer's half keeps, the two
forms of a step, and runs of cycles. -/

namespace Sys2Proof.Machine

/-- The host's half of a cycle always answers a next state. -/
theorem host_half_next (s : State) : ∃ h, exec (decodeHb s.pins.hb) s.popInput = .next h := by
  refine decodeHb_cases (fun i => ∃ h, exec i s.popInput = .next h) _ fun i hi _ => ?_
  obtain ⟨t, h, -⟩ := exec_hb_next i hi s.popInput
  exact ⟨t, h⟩

/-- What a cycle with `rst` = 0 consists of. -/
theorem step_parts (s t : State) (h0 : s.pins.rst = 0) (h : step s = .next t) :
    s.cfg.wellFormed = true ∧ (s.rendering = true → s.cfg.lineFits s.ltrim s.lh = true) ∧
    ∃ hh r, exec (decodeHb s.pins.hb) s.popInput = .next hh ∧ t = commit hh r ∧
      counterStep (kernelCycle s.popInput.clearStrobes) = .next r := by
  obtain ⟨hw, ⟨h1, -⟩ | ⟨-, hh, r, a, b, c⟩⟩ := (step_next_iff s t).1 h
  · rw [h0] at h1
    exact absurd h1 (by decide)
  · obtain ⟨f, g⟩ := rendererCycle_next _ _ b
    exact ⟨hw, f, hh, r, a, c, g⟩

/-- What the renderer's work within a line never touches, and what only K.end touches. -/
theorem kernelCycle_frame (s : State) :
    (kernelCycle s).hcount = s.hcount ∧ (kernelCycle s).cfg = s.cfg ∧ (kernelCycle s).lineNumber = s.lineNumber ∧
    (kernelCycle s).swPending = s.swPending ∧ (kernelCycle s).swActive = s.swActive ∧
    (kernelCycle s).vTrimL = s.vTrimL ∧ SameHostRegs s (kernelCycle s) ∧
    (¬ (s.rendering = true ∧ s.kEndDue = true) →
      (kernelCycle s).handler = s.handler ∧ (kernelCycle s).frameCount = s.frameCount ∧
      (kernelCycle s).irqQ = s.irqQ ∧ (kernelCycle s).eodQ = s.eodQ ∧ (kernelCycle s).rendering = s.rendering ∧
      (kernelCycle s).tileRowOffset = s.tileRowOffset ∧ (kernelCycle s).rowPtr = s.rowPtr) := by
  rcases kernelCycle_cases s with ⟨h0, h⟩ | ⟨h0, col, h1, h⟩ | ⟨h0, h2, ⟨col, h1⟩, h⟩ | ⟨h0, h2, h1, hk, h⟩ |
    ⟨h0, h2, h1, hk, h⟩ <;> rw [h]
  · simp [SameHostRegs]
  · exact ⟨rfl, rfl, rfl, rfl, rfl, rfl, ⟨rfl, rfl, rfl, rfl, rfl, rfl⟩, fun _ => ⟨rfl, rfl, rfl, rfl, rfl, rfl, rfl⟩⟩
  · exact ⟨rfl, rfl, rfl, rfl, rfl, rfl, ⟨rfl, rfl, rfl, rfl, rfl, rfl⟩, fun _ => ⟨rfl, rfl, rfl, rfl, rfl, rfl, rfl⟩⟩
  · rw [State.kEnd_eq]
    simp [h0, hk, SameHostRegs]
  · simp [SameHostRegs]

/-- A line that fits its period ends before the cycle of the tick. -/
theorem State.not_atTick_of_kEndDue (s : State) (hf : s.cfg.lineFits s.ltrim s.lh = true)
    (hk : (s.hcount.toNat : Int) + 1 = s.xEnd) : s.hcount.toNat + 1 ≠ s.cfg.hCycles := by
  have h1 := (of_decide_eq_true hf).2.2
  have h2 : s.xEnd = s.cfg.lineEnd s.ltrim s.lh := rfl
  omega

/-- A step in a cycle that is not the last of its period. -/
theorem step_of_not_tick (s : State) (hw : s.cfg.wellFormed = true) (h0 : s.pins.rst = 0)
    (hf : s.rendering = true → s.cfg.lineFits s.ltrim s.lh = true) (ht : s.hcount.toNat + 1 ≠ s.cfg.hCycles) :
    ∃ h, exec (decodeHb s.pins.hb) s.popInput = .next h ∧
      step s = .next (commit h { kernelCycle s.popInput.clearStrobes with hcount := s.hcount + 1 }) := by
  obtain ⟨h, hh⟩ := host_half_next s
  obtain ⟨k1, k2, -⟩ := kernelCycle_frame s.popInput.clearStrobes
  refine ⟨h, hh, (step_next_iff _ _).2 ⟨hw, .inr ⟨h0, h, _, hh, ?_, rfl⟩⟩⟩
  unfold rendererCycle
  rw [if_neg]
  · unfold counterStep
    rw [if_neg]
    · rw [k1]
      rfl
    · simp only [State.atTick, k1, k2, decide_eq_true_eq]
      exact ht
  · intro hc
    simp at hc
    have h2 := hc.2
    rw [hf hc.1] at h2
    simp at h2

/-! ## Runs, host sequences and outputs -/

/-- One more cycle at the end of a run. -/
theorem runCycles_succ (n : Nat) (s : State) :
    runCycles (n + 1) s = match runCycles n s with
      | .next t => step t
      | .fault f => .fault f
      | .refused r => .refused r := by
  induction n generalizing s with
  | zero => simp only [runCycles]; cases step s <;> rfl
  | succ n ih =>
    rw [runCycles, runCycles]
    cases step s with
    | next t => exact ih t
    | fault f => nomatch f
    | refused r => rfl

/-- The state a run reaches. -/
theorem State.after_of_runCycles {s t : State} {n : Nat} (h : runCycles n s = .next t) : s.after n = t := by
  simp [State.after, h]

@[simp] theorem State.after_zero (s : State) : s.after 0 = s := rfl
@[simp] theorem State.issue_pins (s : State) (i : Instr) : (s.issue i).pins = ⟨s.pins.rst, hostWordOf i⟩ := rfl
@[simp] theorem State.issue_popInput (s : State) (i : Instr) : (s.issue i).popInput = s.popInput := rfl
@[simp] theorem State.issue_inputs (s : State) (i : Instr) :
    (s.issue i).inputs = ⟨s.pins.rst, hostWordOf i⟩ :: s.inputs.tail := rfl

@[simp] theorem lineIrqOut_eq (s : State) : lineIrqOut s = s.irqQ := rfl
@[simp] theorem eodOut_eq (s : State) : eodOut s = s.eodQ := rfl
@[simp] theorem runHost_nil (s : State) : runHost [] s = .next s := rfl
@[simp] theorem displayEnds_nil (s : State) : displayEnds [] s = 0 := rfl

/-- A run of host operations whose first cycle completes. -/
theorem runHost_cons {s t : State} {i : Instr} (is : List Instr) (h : hostCycle i s = .next t) :
    runHost (i :: is) s = runHost is t := by
  simp [runHost, h]

/-- The display ends of a run whose first cycle completes. -/
theorem displayEnds_cons {s t : State} {i : Instr} (is : List Instr) (h : hostCycle i s = .next t) :
    displayEnds (i :: is) s = (if eodOut t then 1 else 0) + displayEnds is t := by
  simp [displayEnds, h]

end Sys2Proof.Machine
end

