-- ==== Sys2Proof/Laws/Invariant.lean ====
section
/-! SUPPORT. The invariant looks at a part of the state only. -/

namespace Sys2Proof.Machine

theorem State.asEff_congr {s t : State} (h1 : t.cfg = s.cfg) (h2 : t.vTrimL = s.vTrimL) : t.asEff = s.asEff := by
  simp [State.asEff, h1, h2]

theorem State.aeEff_congr {s t : State} (h1 : t.cfg = s.cfg) (h2 : t.vTrimL = s.vTrimL) : t.aeEff = s.aeEff := by
  simp [State.aeEff, h1, h2]

/-- The invariant passes to a state that agrees on what it looks at. -/
theorem Inv.congr {s t : State} (i : Inv s) (hcfg : t.cfg = s.cfg) (h1 : t.hcount = s.hcount)
    (h2 : t.lineNumber = s.lineNumber) (h3 : t.tileRowOffset = s.tileRowOffset) (h4 : t.vTrimL = s.vTrimL)
    (h5 : t.ltrim = s.ltrim) (h6 : t.lh = s.lh) (h7 : t.rendering = s.rendering) (h8 : t.handler = s.handler)
    (h9 : t.rowPtr = s.rowPtr) (h10 : t.swPending = s.swPending) (h11 : t.swActive = s.swActive)
    (h12 : (t.eodQ = true → t.irqQ = true ∧ 0 < t.hcount.toNat) ∧
      (t.irqQ = true → t.rendering = false ∧ (t.hcount.toNat = 0 ∨ (t.hcount.toNat : Int) = t.xEnd)))
    (h13 : Memory.wf s.cfg.screenBytes t.screen = true)
    (h14 : Memory.wf (if s.cfg.hasRam then s.cfg.ramBytes else 0) t.ramt = true) : Inv t := by
  have ha := State.asEff_congr hcfg h4
  have he := State.aeEff_congr hcfg h4
  have hx : t.xEnd = s.xEnd := by simp [State.xEnd, hcfg, h5, h6]
  have hr : t.region = s.region := by simp [State.region, State.regionOf, hcfg, h2, ha, he]
  have hl : t.linesDone = s.linesDone := by simp [State.linesDone, h2, ha, h7]
  constructor
  · rw [hcfg]; exact i.cfgOk
  · rw [hcfg, h1]; exact i.hcountLt
  · rw [hcfg, h2]; exact i.lineLt
  · rw [hcfg, h3]; exact i.tileRowLt
  · rw [hcfg, ha, he]; exact i.trimKept
  · rw [hcfg, h4, h5]; exact i.trimOff
  · rw [hcfg, h6]; exact i.scrollOff
  · rw [h7, h8, hr]; exact i.idleHandler
  · rw [h7, h8, ha, he, h2]; exact i.busyHandler
  · rw [h7, hcfg, h5, h6, h1, hx]; exact i.busyFits
  · rw [h8, hcfg, hl]
    unfold State.rowsAfter
    rw [h3, h9, hcfg]
    exact i.rows
  · rw [h10, h2, hcfg]; exact i.pendingV
  · rw [h11, h2, hcfg]; exact i.activeV
  · exact h12
  · rw [hcfg]; exact h13
  · rw [hcfg]; exact h14

end Sys2Proof.Machine
end

