-- ==== Sys2Proof/Tests/Slice0.lean ====
section
/-! SUPPORT. The model's own tests: ill-formed terms that WellFormed refuses, a written-out word for every operation,
single steps with results from spec/95_test_vectors.md, and a witness for every statement that has hypotheses. -/

namespace Sys2Proof.Tests

-- One theorem after the other: each kernel check would otherwise hold a thread while it waits for the ones before it.
set_option Elab.async false

open Sys2Proof Sys2Proof.Machine

/-! ## Small states and helpers -/

/-- TOY with a variant, right after reset. -/
def toy (v : Variant) : State := State.resetOf (Config.toy v)

/-- The configuration TOY8 with ROM-B (spec/95_test_vectors.md section 2). -/
def toy8Cfg : Cfg :=
  { Config.toy .k8 with
    linesPerFrame := 20, activeEnd := 15, tileH := 8, romTiles := 2, ramTiles := 1, romBytes := 16
    vscrollEn := true, trimEn := true
    rom := [0x01, 0x02, 0x04, 0x08, 0x10, 0x20, 0x40, 0x80, 0xFE, 0xFD, 0xFB, 0xF7, 0xEF, 0xDF, 0xBF, 0x7F] }

/-- TOY8 right after reset. -/
def toy8 : State := State.resetOf toy8Cfg

/-- SCREEN holds SCR-A (spec/95_test_vectors.md section 2). -/
def scrA : Memory :=
  [(0, 0x01), (1, 0x02), (2, 0x03), (3, 0x02), (4, 0x00), (5, 0x01), (6, 0x03), (7, 0x03), (8, 0x03)]

/-- TOY with a variant and SCR-A in the cycle `h` of the rendered line `l` of the first frame. -/
def onLine (v : Variant) (l h : Nat) : State :=
  { toy v with
    lineNumber := BitVec.ofNat 16 l, hcount := BitVec.ofNat 16 h, handler := .kernel, rendering := true
    screen := scrA }

/-- TOY K8 in the last cycle of line `l` with no line in progress. -/
def lastCycle (l : Nat) : State := { toy .k8 with lineNumber := BitVec.ofNat 16 l, hcount := 159 }

/-- The next state of an outcome, if it is one. -/
def nextOf (o : Host.Outcome State Fault Refusal) : Option State :=
  match o with
  | .next t => some t
  | .fault _ => none
  | .refused _ => none

/-- The refusal of an outcome, if it is one. -/
def refusalOf (o : Host.Outcome State Fault Refusal) : Option Refusal :=
  match o with
  | .next _ => none
  | .fault _ => none
  | .refused r => some r

/-- One step with a host bus word on the pins. -/
def hostWord (w : HbWord) (s : State) : Option State := nextOf (step (s.withInputs [⟨0, w⟩]))

/-- What a field of the next state holds proves that there is one. -/
theorem next_of_some {o : Host.Outcome State Fault Refusal} (h : (nextOf o).isSome = true) : ∃ t, o = .next t := by
  cases o with
  | next t => exact ⟨t, rfl⟩
  | fault f => nomatch f
  | refused r => simp [nextOf] at h

theorem refused_of_some {o : Host.Outcome State Fault Refusal} {r : Refusal} (h : refusalOf o = some r) :
    o = .refused r := by
  cases o with
  | next t => simp [refusalOf] at h
  | fault f => nomatch f
  | refused q => simpa [refusalOf] using h

/-! ## Ill-formed terms -/

theorem test_wr_rsvd_needs_a_reserved_address :
    (Instr.wrRsvd 0x0005 0x11).wellFormed = false ∧ (Instr.wrRsvd 0x000B 0x11).wellFormed = false ∧
    (Instr.wrRsvd 0x000C 0x11).wellFormed = true := by decide
theorem test_rd_rsvd_needs_a_reserved_address :
    (Instr.rdRsvd 0x0000).wellFormed = false ∧ (Instr.rdRsvd 0x000B).wellFormed = false ∧
    (Instr.rdRsvd 0x000C).wellFormed = true := by decide
theorem test_toy_is_well_formed :
    (∀ v, (Config.toy v).wellFormed = true) ∧ toy8Cfg.wellFormed = true := by
  refine ⟨fun v => ?_, by decide⟩
  cases v <;> decide
theorem test_w1_refuses : let c := { Config.toy .k8 with hsyncW := 140 }
    c.w1 = false ∧ c.wellFormed = false := by decide
theorem test_w2_refuses : let c := { Config.toy .k8 with vsyncEnd := 1 }
    c.w2 = false ∧ c.wellFormed = false := by decide
theorem test_w3_refuses : let c := { Config.toy .k8 with cpp := 3 }
    c.w3 = false ∧ c.wellFormed = false := by decide
theorem test_w4_refuses : let c := { Config.toy .k8rs with hStart := 21 }
    c.w4 = false ∧ c.wellFormed = false := by decide
theorem test_w5_refuses : let c := { Config.toy .k8 with hStart := 127 }
    c.w5 = false ∧ c.wellFormed = false := by decide
theorem test_w6_refuses : let c := { Config.toy .k8 with vscrollEn := true }
    c.w6 = false ∧ c.wellFormed = false := by decide
theorem test_w7_refuses : let c := { Config.toy .k8 with bufRows := 1 }
    c.w7 = false ∧ c.wellFormed = false := by decide
theorem test_w8_refuses : let c := { Config.toy .k8 with romTiles := 257 }
    c.w8 = false ∧ c.wellFormed = false := by decide

/-! ## Decoding: a word written out from spec/30_encoding.md R92 to R94 for every operation -/

/-- Bit by bit: `h_re` 0, `h_we` 1, `h_sel` 00, `h_addr` 0000 0000 0000 0100, `h_wdata` 0000 0011. -/
theorem test_decode_wr_h_scroll_bits :
    decode (.hb 0b0100000000000000010000000011) = .ok (.wrHScroll 3) := by decide
/-- Bit by bit: `h_re` 1, `h_we` 0, `h_sel` 00, `h_addr` 0000 0000 0000 1001, data ignored (0101 1010). -/
theorem test_decode_rd_frame_lo_bits :
    decode (.hb 0b1000000000000000100101011010) = .ok .rdFrameLo := by decide
/-- Bit by bit: `h_re` 0, `h_we` 1, `h_sel` 01, `h_addr` 1000 0000 0000 0100, `h_wdata` 1000 0001. -/
theorem test_decode_wrs_bits :
    decode (.hb 0b0101100000000000010010000001) = .ok (.wrs 0x8004 0x81) := by decide
/-- The pin and the selector: bit 2 is `handler`, bits 1:0 the variant (R93, R94). -/
theorem test_decode_pin_and_seq :
    decode (.pin 0b1) = .ok .reset ∧ decode (.pin 0b0) = .error .pinSelectsNothing ∧
    decode (.seq 0b000) = .ok .lineInactive ∧ decode (.seq 0b011) = .ok .lineInactive ∧
    decode (.seq 0b100) = .ok .lineK6 ∧ decode (.seq 0b101) = .ok .lineK8 ∧
    decode (.seq 0b110) = .ok .lineK8r ∧ decode (.seq 0b111) = .ok .lineK8rs := by decide
/-- The write words of V50 and V53. -/
theorem test_decode_register_writes :
    decode (.hb 0x40000AB) = .ok (.wrFontLo 0xAB) ∧ decode (.hb 0x40001CD) = .ok (.wrFontHi 0xCD) ∧
    decode (.hb 0x4000210) = .ok (.wrRamtLo 0x10) ∧ decode (.hb 0x4000380) = .ok (.wrRamtHi 0x80) ∧
    decode (.hb 0x400040B) = .ok (.wrHScroll 0x0B) ∧ decode (.hb 0x4000500) = .ok (.wrHMask 0x00) ∧
    decode (.hb 0x40006FF) = .ok (.wrVScroll 0xFF) ∧ decode (.hb 0x40007FC) = .ok (.wrHTrim 0xFC) ∧
    decode (.hb 0x4000802) = .ok (.wrVTrim 0x02) ∧ decode (.hb 0x4000955) = .ok (.wrFrameLo 0x55) ∧
    decode (.hb 0x4000A55) = .ok (.wrFrameHi 0x55) ∧ decode (.hb 0x4000B03) = .ok (.wrConfig 0x03) ∧
    decode (.hb 0x4000CFF) = .ok (.wrRsvd 0x000C 0xFF) ∧
    decode (.hb 0x4010001) = .ok (.wrRsvd 0x0100 0x01) := by decide
/-- The read words of V50 and V53. -/
theorem test_decode_register_reads :
    decode (.hb 0x8000000) = .ok .rdFontLo ∧ decode (.hb 0x8000100) = .ok .rdFontHi ∧
    decode (.hb 0x8000200) = .ok .rdRamtLo ∧ decode (.hb 0x8000300) = .ok .rdRamtHi ∧
    decode (.hb 0x8000400) = .ok .rdHScroll ∧ decode (.hb 0x8000500) = .ok .rdHMask ∧
    decode (.hb 0x8000600) = .ok .rdVScroll ∧ decode (.hb 0x8000700) = .ok .rdHTrim ∧
    decode (.hb 0x8000800) = .ok .rdVTrim ∧ decode (.hb 0x8000900) = .ok .rdFrameLo ∧
    decode (.hb 0x8000A00) = .ok .rdFrameHi ∧ decode (.hb 0x8000B00) = .ok .rdConfig ∧
    decode (.hb 0x8000F00) = .ok (.rdRsvd 0x000F) ∧ decode (.hb 0x8010000) = .ok (.rdRsvd 0x0100) := by decide
/-- The words of V52 and V53. -/
theorem test_decode_memory_and_reserved :
    decode (.hb 0x5000481) = .ok (.wrs 0x0004 0x81) ∧ decode (.hb 0x9000400) = .ok (.rds 0x0004) ∧
    decode (.hb 0x6001055) = .ok (.wrt 0x0010 0x55) ∧ decode (.hb 0xA001000) = .ok (.rdt 0x0010) ∧
    decode (.hb 0x0000000) = .ok .nop ∧ decode (.hb 0x3ABCDEF) = .ok .nop ∧
    decode (.hb 0x7000001) = .ok .wrSel3 ∧ decode (.hb 0xB000000) = .ok .rdSel3 ∧
    decode (.hb 0xC000400) = .ok .both ∧ decode (.hb 0xD000001) = .ok .both := by decide
/-- The encodings that spec/95_test_vectors.md prints. -/
theorem test_encode_examples :
    encode (.wrHScroll 3) = .hb 0x4000403 ∧ encode (.wrVTrim 0x02) = .hb 0x4000802 ∧
    encode (.wrs 0x0004 0x81) = .hb 0x5000481 ∧ encode .rdFrameLo = .hb 0x8000900 ∧
    encode (.rdt 0x0010) = .hb 0xA001000 := by decide
/-- A row of the table: one byte for PIN and SEQ, four for HB (log 13). -/
theorem test_decode_table_words :
    decodeTableWord 8 1 = some .reset ∧ decodeTableWord 8 0 = some .lineInactive ∧
    decodeTableWord 8 7 = some .lineK8rs ∧ decodeTableWord 32 0x5000481 = some (.wrs 0x0004 0x81) ∧
    decodeTableWord 32 0x10000000 = none := by decide

/-! ## Single steps -/

/-- V70, V71: reset in the middle of a line, with a host word on the bus. -/
theorem test_reset_mid_line :
    (nextOf (step { onLine .k8rs 7 50 with inputs := [⟨1, 0x4000403⟩], hFine := 3, ramtBase := 0x10, lh := 3 })).map
      (fun t => (t.hcount, t.rendering, t.hFine, t.ramtBase)) = some (0, false, 0, 0) := by decide +kernel

/-- V3: vsync-end at the tick that enters line 3. -/
theorem test_line_inactive_vsync_end :
    (nextOf (step { lastCycle 2 with swPending := .v, swActive := .v })).map
      (fun t => (t.lineNumber, t.swPending, t.swActive, t.hcount, t.irqQ)) = some (3, .h, .v, 0, true) := by
  decide +kernel
/-- V3: the wrap; `frame_count` does not change. -/
theorem test_line_inactive_wrap :
    (nextOf (step { lastCycle 11 with frameCount := 1 })).map
      (fun t => (t.lineNumber, t.swPending, t.swActive, t.frameCount)) = some (0, .v, .h, 1) := by decide +kernel

/-- R161, R176: K.begin of LINE.K6. -/
theorem test_line_k6_begins :
    (nextOf (step { toy .k6 with lineNumber := 5, hcount := 159, handler := .kernel, fontBase := 2, hFine := 3 })).map
      (fun t => (t.lineNumber, t.rendering, t.lfont, t.lh, t.irqQ)) = some (6, true, 2, 0, false) := by decide +kernel
/-- V27: SCREEN[1] is read in cycle 54 of line 6 and ROM[4] in cycle 55. -/
theorem test_line_k8_fetches_column_1 :
    (nextOf (step (onLine .k8 6 54))).map (·.cell) = some 0x02 ∧
    (nextOf (step { onLine .k8 6 55 with cell := 0x02 })).map (·.cur) = some 0xA4 := by decide +kernel
/-- V1: K.end of line 9 at the end of cycle 71. -/
theorem test_line_k8_ends_display :
    (nextOf (step { onLine .k8 9 71 with tileRowOffset := 1, rowPtr := 3 })).map
      (fun t => (t.rowPtr, t.frameCount, t.handler, t.eodQ, t.rendering)) =
    some (6, 1, .inactive, true, false) := by decide +kernel
/-- V28: cell 0x83 reads RAMT tile 3 mod 2 = 1, row 0, at 0x12. -/
theorem test_line_k8r_reads_ram_tile :
    (nextOf (step { onLine .k8r 8 39 with cell := 0x83, lram := 0x10, ramt := [(0x12, 0x19)] })).map (·.cur) =
    some 0x19 := by decide +kernel
/-- V33: the latch of h = 3, and the line from 34 to 82. -/
theorem test_line_k8rs_latches_scroll :
    (nextOf (step { toy .k8rs with lineNumber := 5, hcount := 159, handler := .kernel, hFine := 3 })).map
      (fun t => (t.lh, t.x0, t.xEnd)) = some (3, 34, 82) := by decide +kernel
/-- V33: slots 0 to 2 masked, slot 3 of 0xF1 shown from cycle 40. -/
theorem test_line_k8rs_masks_first_slots :
    videoOut { onLine .k8rs 6 39 with lh := 3, cur := 0xF1 } = false ∧
    videoOut { onLine .k8rs 6 40 with lh := 3, cur := 0xF1 } = true := by decide
/-- V25: cycles 46 and 48 of line 6, bits 4 and 3 of 0xF1. -/
theorem test_video_of_line_6 :
    videoOut { onLine .k8 6 46 with cur := 0xF1 } = true ∧ videoOut { onLine .k8 6 48 with cur := 0xF1 } = false := by
  decide
/-- V2: the two pulses. -/
theorem test_sync_pulses :
    syncOut { toy .k8 with hcount := 7 } = false ∧ syncOut { toy .k8 with hcount := 8 } = true ∧
    syncOut { toy .k8 with hcount := 139, swActive := .v } = false ∧
    syncOut { toy .k8 with hcount := 140, swActive := .v } = true := by decide

/-- V50: the register writes. -/
theorem test_wr_font :
    (hostWord 0x40000AB (toy .k8)).map (·.fontBase) = some 0x00AB ∧
    (hostWord 0x40001CD { toy .k8 with fontBase := 0x00AB }).map (·.fontBase) = some 0xCDAB := by decide +kernel
theorem test_wr_ramt :
    (hostWord 0x4000210 { toy .k8 with ramtBase := 0x8055 }).map (·.ramtBase) = some 0x8010 ∧
    (hostWord 0x4000380 { toy .k8 with ramtBase := 0x0010 }).map (·.ramtBase) = some 0x8010 := by decide +kernel
theorem test_wr_scroll :
    (hostWord 0x400040B (toy .k8)).map (·.hFine) = some 3 ∧
    (hostWord 0x40006FF (toy .k8)).map (·.vFine) = some 7 := by decide +kernel
theorem test_wr_trim :
    (hostWord 0x40007FC (toy .k8)).map (·.hTrim) = some 0xFC ∧
    (hostWord 0x4000802 (toy .k8)).map (fun t => (t.vTrim, t.vTrimL)) = some (0x02, 0) := by decide +kernel
/-- The word changes nothing but the counter in a state with `h_fine` = 3, and reads 0x00. -/
def isIgnored (w : HbWord) : Bool :=
  decide (hostWord w { toy .k8rs with hFine := 3 } = some { toy .k8rs with hFine := 3, hcount := 1 })
/-- V50, V53: the words of no effect. -/
theorem test_ignored_words :
    [(0x4000500 : HbWord), 0x4000955, 0x4000A55, 0x4000B03, 0x4000CFF, 0x4010001, 0x3ABCDEF, 0x8000F00, 0x8010000,
      0x7000001, 0xB000000, 0xC000400, 0xD000001].map isIgnored = List.replicate 13 true := by decide +kernel

/-- The registers as V50 and V67 leave them. -/
def written : State :=
  { toy .k8rs with
    fontBase := 0xCDAB, ramtBase := 0x8010, hFine := 3, vFine := 7, hTrim := 0xFC, vTrim := 2, frameCount := 0x01FF }

/-- V50, V67: every register read, in the order of the addresses. -/
theorem test_rd_registers :
    [(0x8000000 : HbWord), 0x8000100, 0x8000200, 0x8000300, 0x8000400, 0x8000500, 0x8000600, 0x8000700, 0x8000800,
      0x8000900, 0x8000A00, 0x8000B00].map (fun w => (hostWord w written).map (·.hRdata)) =
    [some 0xAB, some 0xCD, some 0x10, some 0x80, some 0x03, some 0x1F, some 0x07, some 0xFC, some 0x02,
      some 0xFF, some 0x01, some 0x0B] := by decide +kernel
/-- V50: CONFIG of TOY8, and of TOY K8 with `CPP` 4, `MSB_FIRST` 0, RowMajor, PAL. -/
theorem test_rd_config :
    configByte toy8Cfg = 0x39 ∧
    configByte { Config.toy .k8 with cpp := 4, msbFirst := false, tileLayout := .rowMajor, standard := .pal } =
      0xC5 := by decide
/-- V52: WRS and RDS, in and out of the populated range. -/
theorem test_wrs_rds :
    (hostWord 0x5000481 (toy .k8r)).map (·.screen) = some [(4, 0x81)] ∧
    (hostWord 0x5000911 (toy .k8r)).map (·.screen) = some [] ∧
    (hostWord 0x9000400 { toy .k8r with screen := [(4, 0x81)] }).map (·.hRdata) = some 0x81 := by decide +kernel
/-- V52: WRT and RDT; without RAM tiles the write is dropped. -/
theorem test_wrt_rdt :
    (hostWord 0x6001055 (toy .k8r)).map (·.ramt) = some [(0x10, 0x55)] ∧
    (hostWord 0x6002001 (toy .k8r)).map (·.ramt) = some [] ∧
    (hostWord 0x6001055 (toy .k8)).map (·.ramt) = some [] ∧
    (hostWord 0xA001000 { toy .k8r with ramt := [(0x10, 0x55)] }).map (·.hRdata) = some 0x55 := by decide +kernel
/-- V74: a write and a fetch of the same byte in the same cycle: the fetch sees the old value. -/
theorem test_same_cycle_race :
    (hostWord 0x5000101 (onLine .k8 6 54)).map (fun t => (t.cell, Memory.find t.screen 1)) =
    some (0x02, some 0x01) := by decide +kernel
/-- A write keeps the canonical form: addresses strictly rising, one entry for each. -/
theorem test_memory_write_is_canonical :
    Memory.write [(1, 0x11), (5, 0x55)] 3 0x33 = [(1, 0x11), (3, 0x33), (5, 0x55)] ∧
    Memory.write [(1, 0x11), (5, 0x55)] 5 0x66 = [(1, 0x11), (5, 0x66)] ∧
    Memory.wf 9 [(1, 0x11), (1, 0x12)] = false ∧ Memory.wf 9 [(1, 0x11), (9, 0x12)] = false := by decide
theorem test_reset_memory_is_canonical :
    Memory.wf State.reset.cfg.screenBytes State.reset.screen = true ∧
    Memory.wf State.reset.cfg.ramBytes State.reset.ramt = true := by decide
/-- The word placed is the word the next step runs (log 14). -/
theorem test_with_fetch_word :
    (nextOf (step (State.reset.withFetchWord 32 0x400040B))).map (·.hFine) = some 3 ∧
    (nextOf (step (State.reset.withFetchWord 8 5))).map (fun t => (t.rendering, t.lineNumber)) = some (true, 1) ∧
    (nextOf (step ({ State.reset with hFine := 3 }.withFetchWord 8 1))).map (·.hFine) = some 0 := by decide +kernel

/-! ## Witnesses: states and operands that meet the hypotheses of the statements -/

theorem inv_reset : Inv State.reset where
  cfgOk := by decide
  hcountLt := by decide
  lineLt := by decide
  tileRowLt := by decide
  trimKept := by decide
  trimOff := by decide
  scrollOff := by decide
  idleHandler := by decide
  busyHandler := by decide
  busyFits := by decide
  rows := fun h => absurd h (by decide)
  pendingV := by decide
  activeV := by decide
  strobes := by decide
  screenWf := by decide
  ramtWf := by decide

/-- The invariant in the first cycle of the rendered line 6, with SCR-A. -/
theorem inv_line_6 : Inv (onLine .k8 6 0) where
  cfgOk := by decide
  hcountLt := by decide
  lineLt := by decide
  tileRowLt := by decide
  trimKept := by decide
  trimOff := by decide
  scrollOff := by decide
  idleHandler := by decide
  busyHandler := by decide
  busyFits := by decide
  rows := fun _ => ⟨0, by decide, by decide, by decide⟩
  pendingV := by decide
  activeV := by decide
  strobes := by decide
  screenWf := by decide
  ramtWf := by decide

/-- The invariant in the last cycle of a line of TOY K8 outside the active region. -/
theorem inv_last_cycle (l : Nat) (h : l < 5 ∨ 9 ≤ l ∧ l < 12) : Inv (lastCycle l) := by
  have hl : l ∈ [0, 1, 2, 3, 4, 9, 10, 11] := by simp only [List.mem_cons, List.not_mem_nil, or_false]; omega
  clear h
  refine ⟨?_, ?_, ?_, ?_, ?_, ?_, ?_, ?_, ?_, ?_, fun h => absurd h ?_, ?_, ?_, ?_, ?_, ?_⟩ <;> revert l <;> decide

theorem witness_ResetPreemptsEverything :
    let s := (onLine .k8rs 7 50).withInputs [⟨1, 0x4000403⟩]
    s.cfg.wellFormed = true ∧ s.pins = ⟨1, 0x4000403⟩ := by decide
/-- And the first and the last byte of ROM-B. -/
theorem witness_ResetStateValues :
    (Config.toy .k8rs).wellFormed = true ∧ toy8Cfg.wellFormed = true ∧
    toy8Cfg.rom[(0 : Addr).toNat]? = some 0x01 ∧ toy8Cfg.rom[(15 : Addr).toNat]? = some 0x7F := by decide
/-- One state for each of the four ways of LINE.INACTIVE, and a wrap at the highest legal trim of TOY8. -/
theorem witness_LineInactiveCountsAndSwitches :
    (∀ l ∈ [11, 2, 4, 3], ((lastCycle l).lineNumber + 1).toNat = (lastCycle l).cfg.linesPerFrame →
      (lastCycle l).cfg.vTrimOk (lastCycle l).vTrim = true) ∧
    (let s := { toy8 with lineNumber := 19, vTrim := 4 }
     (s.lineNumber + 1).toNat = s.cfg.linesPerFrame ∧ s.cfg.vTrimOk s.vTrim = true) := by decide
theorem witness_WrapRefusesTrimOutsideContract :
    ∀ d ∈ [(5 : Byte), 0xFE], let s := { toy8 with lineNumber := 19, vTrim := d }
      (s.lineNumber + 1).toNat = s.cfg.linesPerFrame ∧ s.cfg.trimEn = true ∧
      ¬ ((s.cfg.vsyncEnd : Int) < s.cfg.activeStart + s.vTrim.toInt ∧
         (s.cfg.activeEnd : Int) + s.vTrim.toInt < s.cfg.linesPerFrame) := by decide
/-- The two ends of the legal range of TOY8 (V45). -/
theorem witness_KernelOperationsBegin :
    toy8Cfg.hTrimOk 0xE0 = true ∧ toy8Cfg.hTrimOk 0x56 = true ∧ (toy .k8rs).cfg.hTrimOk 0x80 = true := by decide
/-- One past the two ends of the legal range of TOY8 (V45). -/
theorem witness_KernelRefusesTrimOutsideContract :
    ∀ d ∈ [(0xDF : Byte), 0x57], let s := { toy8 with hTrim := d }
      s.cfg.trimEn = true ∧
      ¬ ((s.cfg.hsyncW : Int) ≤ s.cfg.hStart + s.hTrim.toInt - (if s.cfg.hasHScroll then 7 * s.cfg.cpp else 0 : Nat) ∧
         (2 : Int) ≤ s.cfg.hStart + s.hTrim.toInt - (if s.cfg.hasHScroll then 7 * s.cfg.cpp else 0 : Nat) ∧
         (s.cfg.hStart : Int) + s.hTrim.toInt + s.cfg.slots * s.cfg.cpp ≤ s.cfg.hCycles - 2) := by decide
/-- The lowest and the highest reserved register address (also for the reads). -/
theorem witness_ReadOnlyWritesAreIgnored :
    0x000B < (0x000C : Addr).toNat ∧ 0x000B < (0xFFFF : Addr).toNat := by decide
theorem witness_ReservedFormsDoNothing : 0x000B < (0x000C : Addr).toNat := by decide
/-- The last populated SCREEN byte of TOY and the first unpopulated one (also for the write). -/
theorem witness_ScreenReadGivesTheByte :
    (8 : Addr).toNat < (toy .k8r).cfg.screenBytes ∧ ¬ (9 : Addr).toNat < (toy .k8r).cfg.screenBytes := by decide
/-- The last populated RAMT byte of TOY, the first unpopulated one, and no RAM tiles (also for the write). -/
theorem witness_TileRamReadGivesTheByte :
    ((toy .k8r).cfg.hasRam = true ∧ (31 : Addr).toNat < (toy .k8r).cfg.ramBytes) ∧
    ¬ (32 : Addr).toNat < (toy .k8r).cfg.ramBytes ∧ (toy .k8).cfg.hasRam = false := by decide
theorem witness_DecodeEncodeRoundTrip :
    (Instr.wrRsvd 0x000C 0xFF).wellFormed = true ∧ (Instr.wrs 0xFFFF 0xFF).wellFormed = true := by decide
/-- The three clauses: RESET, a host word beside a rendered line and beside one that does not fit its period, a tick with
no line in progress. -/
theorem witness_StepRunsTheDecodedOperation :
    ((toy .k8).withInputs [⟨1, 0⟩]).pins.rst = 1 ∧ (toy .k8).cfg.wellFormed = true ∧
    (let s := (onLine .k8 6 54).withInputs [⟨0, 0x5000101⟩]
     s.cfg.wellFormed = true ∧ s.pins.rst = 0 ∧ decode (.hb s.pins.hb) = .ok (.wrs 0x0001 0x01) ∧
      (∃ r, rendererCycle s.popInput = .next r) ∧
      rendererCycle { s.popInput with ltrim := 0x80 } = .refused .lineOutsidePeriod) ∧
    ((lastCycle 11).rendering = false ∧ (lastCycle 11).hcount.toNat + 1 = (lastCycle 11).cfg.hCycles ∧
     decode (.seq (lastCycle 11).selector) = .ok .lineInactive) ∧
    (let s := { lastCycle 5 with handler := .kernel }
     s.rendering = false ∧ s.hcount.toNat + 1 = s.cfg.hCycles ∧ decode (.seq s.selector) = .ok .lineK8) :=
  ⟨by decide, by decide, ⟨by decide, by decide, by decide, next_of_some (by decide +kernel),
    refused_of_some (by decide +kernel)⟩, by decide, by decide⟩
/-- A write of SCREEN and one of RAMT in a cycle of a rendered line, with the counter and the line going on. -/
theorem test_running_vsg_commits_memory_writes :
    (hostWord 0x5000411 (onLine .k8r 6 54)).map (fun t => (t.stored .screen 4, t.cell, t.hcount)) =
      some (0x11, 0x02, 55) ∧
    (hostWord 0x6001055 (onLine .k8r 6 54)).map (fun t => (t.stored .ramt 0x10, t.cell, t.hcount)) =
      some (0x55, 0x02, 55) := by decide +kernel
theorem witness_KernelTickLatchesControls :
    let s := { State.reset with lineNumber := 5, hcount := 159, handler := .kernel, hFine := 3, fontBase := 0x0102 }
    s.cfg.wellFormed = true ∧ s.pins.rst = 0 ∧ s.rendering = false ∧ s.handler = .kernel ∧
    s.hcount.toNat + 1 = s.cfg.hCycles ∧ s.cfg.hTrimOk s.hTrim = true := by decide
/-- The last cycle of a period and one before it. -/
theorem witness_CounterStepsAndWraps :
    (lastCycle 11).pins.rst = 0 ∧ (∃ t, step (lastCycle 11) = .next t) ∧
    (∃ t, step { lastCycle 11 with hcount := 158 } = .next t) :=
  ⟨by decide, next_of_some (by decide +kernel), next_of_some (by decide +kernel)⟩
/-- The wrap, the vsync end, and another tick. -/
theorem witness_PulseWidthIsDoubleBuffered :
    (lastCycle 11).pins.rst = 0 ∧ (∃ t, step (lastCycle 11) = .next t) ∧ (∃ t, step (lastCycle 2) = .next t) ∧
    (∃ t, step (lastCycle 3) = .next t) :=
  ⟨by decide, next_of_some (by decide +kernel), next_of_some (by decide +kernel), next_of_some (by decide +kernel)⟩
/-- K.end of the last rendered line, where the counter is about to wrap, and K.end of the line before it. -/
theorem witness_FrameCounterStepsAtDisplayEnd :
    let s := { onLine .k8 9 71 with frameCount := 0xFFFF }
    s.pins.rst = 0 ∧ s.rendering = true ∧ (s.hcount.toNat : Int) + 1 = s.xEnd ∧
    (s.lineNumber.toNat : Int) = s.aeEff ∧ (∃ t, step s = .next t) ∧ (∃ t, step (onLine .k8 8 71) = .next t) := by
  intro s
  exact ⟨by decide, by decide, by decide, by decide, next_of_some (by decide +kernel), next_of_some (by decide +kernel)⟩
/-- K.end of the last line, a tick of LINE.INACTIVE, a reset, and a strobe that falls in the first cycle of a reset. -/
theorem witness_StrobesRiseOnCompletionOnly :
    (∃ t, step (onLine .k8 9 71) = .next t) ∧ (∃ t, step (lastCycle 3) = .next t) ∧
    (∃ t, step ((onLine .k8 9 71).withInputs [⟨1, 0⟩]) = .next t) ∧
    (nextOf (step ((lastCycle 3).withInputs [Input.idle, ⟨1, 0⟩]))).map
      (fun t => (t.pins.rst, t.irqQ)) = some (1, true) :=
  ⟨next_of_some (by decide +kernel), next_of_some (by decide +kernel), next_of_some (by decide +kernel),
    by decide +kernel⟩
/-- V70: a reset in the middle of a rendered line. -/
theorem witness_OutputsDuringReset :
    let s := (onLine .k8rs 7 50).withInputs [⟨1, 0⟩, ⟨1, 0⟩]
    s.pins.rst = 1 ∧ ∃ t, step s = .next t := ⟨by decide, next_of_some (by decide +kernel)⟩
/-- R256, R281: a strobe in the first cycle of a reset is still shown, and no later one. -/
theorem test_strobe_in_first_reset_cycle :
    let s := (onLine .k8 9 71).withInputs [Input.idle, ⟨1, 0⟩]
    (nextOf (runCycles 1 s)).map (fun t => (t.pins.rst, lineIrqOut t, eodOut t)) = some (1, true, true) ∧
    (nextOf (runCycles 2 s)).map (fun t => (lineIrqOut t, eodOut t)) = some (false, false) := by decide +kernel
/-- V70: the outputs of the reset cycle still show line 7, and those of the next cycle are all 0 (R281). -/
theorem test_outputs_during_reset :
    let s := { (onLine .k8rs 7 50).withInputs [⟨1, 0⟩, ⟨1, 0⟩] with lh := 3, cur := 0xA9 }
    (videoOut s, syncOut s, lineIrqOut s, eodOut s) = (true, true, false, false) ∧
    (nextOf (step s)).map (fun t => (videoOut t, syncOut t, lineIrqOut t, eodOut t)) =
      some (false, false, false, false) := by decide +kernel
/-- The first and the last column of TOY K8, both fetches, and a cycle of no fetch. -/
theorem witness_FetchSchedule :
    (∀ h ∈ [38, 39, 54, 55, 56], let s := onLine .k8 6 h
      s.cfg.wellFormed = true ∧ s.pins.rst = 0 ∧ s.rendering = true ∧ s.cfg.lineFits s.ltrim s.lh = true) ∧
    (0 < (toy .k8).cfg.fetchCols ∧ 1 < (toy .k8).cfg.fetchCols ∧
      ((onLine .k8 6 38).hcount.toNat : Int) + 2 = (onLine .k8 6 38).x0 + (0 : Nat) * 8 * 2 ∧
      ((onLine .k8 6 39).hcount.toNat : Int) + 1 = (onLine .k8 6 39).x0 + (0 : Nat) * 8 * 2 ∧
      ((onLine .k8 6 54).hcount.toNat : Int) + 2 = (onLine .k8 6 54).x0 + (1 : Nat) * 8 * 2 ∧
      ((onLine .k8 6 55).hcount.toNat : Int) + 1 = (onLine .k8 6 55).x0 + (1 : Nat) * 8 * 2) ∧
    (∃ t, step (onLine .k8 6 56) = .next t) ∧
    (∀ col, col < (toy .k8).cfg.fetchCols →
      ((onLine .k8 6 56).hcount.toNat : Int) + 2 ≠ (onLine .k8 6 56).x0 + col * 8 * 2 ∧
      ((onLine .k8 6 56).hcount.toNat : Int) + 1 ≠ (onLine .k8 6 56).x0 + col * 8 * 2) :=
  ⟨by decide, by decide, next_of_some (by decide +kernel), by decide⟩
/-- The last ROM cell and the first RAM cell. -/
theorem witness_BankAndIndexOfCell :
    (Config.toy .k8).hasRam = false ∧ (Config.toy .k8r).hasRam = true ∧ (0x7F : Byte).toNat < 128 ∧
    128 ≤ (0x80 : Byte).toNat := by decide
theorem witness_TileAddressFollowsLayout :
    bankOf (toy .k8r).cfg 0x7F = .rom ∧ bankOf (toy .k8r).cfg 0x80 = .ramt ∧
    (∀ t ∈ [(0x7F : Byte), 0x80], populated (toy .k8r).cfg (bankOf (toy .k8r).cfg t) ((toy .k8r).cellAddr t) = true) := by
  decide
/-- K.end in the last row of a tile and in another, on the last line and on another. -/
theorem witness_KEndPostConditions :
    ∀ l ∈ [8, 9], ∀ r ∈ [(0 : BitVec 8), 1], let s := { onLine .k8 l 71 with tileRowOffset := r }
      s.cfg.wellFormed = true ∧ s.pins.rst = 0 ∧ s.rendering = true ∧ s.cfg.lineFits s.ltrim s.lh = true ∧
      (s.hcount.toNat : Int) + 1 = s.xEnd := by decide
theorem witness_SyncPulseWidth : (toy .k8).swActive = .h ∧ { toy .k8 with swActive := SyncWidth.v }.swActive = .v := by
  decide
/-- The first cycle of the first slot and the last cycle of the last slot, the last masked and the first unmasked slot
of each scrolled end column, and the cycles before and after the line. -/
theorem witness_VideoShowsTheSlots :
    (∀ p ∈ [(40, 0, 0, 0), (71, 1, 7, 1)], let s := onLine .k8 6 p.1
      1 ≤ s.cfg.visCols ∧ s.rendering = true ∧ p.2.1 < s.cfg.fetchCols ∧ p.2.2.1 < s.cfg.ppt ∧ p.2.2.2 < s.cfg.cpp ∧
      (s.hcount.toNat : Int) = s.cfg.hStart + s.ltrim.toInt - s.lh.toNat * s.cfg.cpp +
        (p.2.1 * s.cfg.ppt + p.2.2.1 : Nat) * s.cfg.cpp + (p.2.2.2 : Nat)) ∧
    (∀ p ∈ [(39, 0, 2, 1), (40, 0, 3, 0), (71, 2, 2, 1), (72, 2, 3, 0)],
      let s := { onLine .k8rs 6 p.1 with lh := 3 }
      1 ≤ s.cfg.visCols ∧ s.rendering = true ∧ p.2.1 < s.cfg.fetchCols ∧ p.2.2.1 < s.cfg.ppt ∧ p.2.2.2 < s.cfg.cpp ∧
      (s.hcount.toNat : Int) = s.cfg.hStart + s.ltrim.toInt - s.lh.toNat * s.cfg.cpp +
        (p.2.1 * s.cfg.ppt + p.2.2.1 : Nat) * s.cfg.cpp + (p.2.2.2 : Nat)) ∧
    ((onLine .k8 6 39).hcount.toNat : Int) < (onLine .k8 6 39).cfg.hStart ∧
    (onLine .k8 6 72).cfg.hStart + (onLine .k8 6 72).cfg.slots * (onLine .k8 6 72).cfg.cpp =
      (onLine .k8 6 72).hcount.toNat ∧ (toy .k8).rendering = false := by decide
/-- `PPT` = 6 and 8, a variant without and with the scroll, and the columns of it. -/
theorem witness_PixelOrderAndVisibility :
    5 < (Config.toy .k6).ppt ∧ 7 < (Config.toy .k8).ppt ∧ (Config.toy .k6).variant = .k6 ∧
    (Config.toy .k8r).variant ≠ .k8rs ∧ (Config.toy .k8rs).variant = .k8rs ∧ 0 < 1 ∧ 1 < (Config.toy .k8rs).visCols := by
  decide
theorem witness_LineStartsAndEndsByItsLatches :
    Inv (onLine .k8 6 0) ∧ (onLine .k8 6 0).cfg.trimEn = false ∧ (onLine .k8 6 0).cfg.hasHScroll = false :=
  ⟨inv_line_6, by decide, by decide⟩
theorem witness_ScrollMasksAreByteMasks :
    (Config.toy .k8rs).variant = .k8rs ∧ 1 ≤ (Config.toy .k8rs).visCols ∧ (Config.toy .k8rs).msbFirst = true ∧
    { Config.toy .k8rs with msbFirst := false }.msbFirst = false := by decide

/-- Two host operations, one after the other. -/
def twoCycles (i j : Instr) (s : State) : Option State :=
  match nextOf (step (s.withInputs [hostPins i, hostPins j])) with
  | some t => nextOf (step t)
  | none => none

theorem two_of_some {i j : Instr} {s : State} (h : (twoCycles i j s).isSome = true) :
    ∃ t u, step (s.withInputs [hostPins i, hostPins j]) = .next t ∧ step t = .next u := by
  unfold twoCycles at h
  split at h
  · rename_i t ht
    obtain ⟨u, hu⟩ := next_of_some h
    cases ho : step (s.withInputs [hostPins i, hostPins j]) with
    | next t' => rw [ho] at ht; simp only [nextOf, Option.some.injEq] at ht; exact ⟨t', u, rfl, ht ▸ hu⟩
    | fault f => nomatch f
    | refused r => rw [ho] at ht; simp [nextOf] at ht
  · simp at h

/-- Each of the eight pairs, with a byte whose high bits a scroll register drops. -/
theorem witness_WrittenValueReadsBackNextCycle :
    ∀ p ∈ [(Instr.wrFontLo 0xFB, Instr.rdFontLo), (.wrFontHi 0xFB, .rdFontHi), (.wrRamtLo 0xFB, .rdRamtLo),
      (.wrRamtHi 0xFB, .rdRamtHi), (.wrHScroll 0xFB, .rdHScroll), (.wrVScroll 0xFB, .rdVScroll),
      (.wrHTrim 0xFB, .rdHTrim), (.wrVTrim 0xFB, .rdVTrim)],
      ∃ t u, step ((toy .k8).withInputs [hostPins p.1, hostPins p.2]) = .next t ∧ step t = .next u := by
  have h : ∀ p ∈ [(Instr.wrFontLo 0xFB, Instr.rdFontLo), (.wrFontHi 0xFB, .rdFontHi), (.wrRamtLo 0xFB, .rdRamtLo),
      (.wrRamtHi 0xFB, .rdRamtHi), (.wrHScroll 0xFB, .rdHScroll), (.wrVScroll 0xFB, .rdVScroll),
      (.wrHTrim 0xFB, .rdHTrim), (.wrVTrim 0xFB, .rdVTrim)], (twoCycles p.1 p.2 (toy .k8)).isSome = true := by
    decide +kernel
  exact fun p hp => two_of_some (h p hp)
/-- A write that races a fetch, and a NOP. -/
theorem witness_HostCannotDisturbRenderer :
    (∃ t, step ((onLine .k8 6 54).withInputs [⟨0, 0x5000101⟩]) = .next t) ∧
    (∃ t, step ((onLine .k8 6 54).withInputs [⟨0, 0⟩]) = .next t) :=
  ⟨next_of_some (by decide +kernel), next_of_some (by decide +kernel)⟩
theorem witness_RendererCannotDisturbHost :
    let s := ({ onLine .k8 6 54 with hFine := 3 }).withInputs [⟨0, 0x5000101⟩]
    let s' := ({ lastCycle 11 with hFine := 3, screen := scrA }).withInputs [⟨0, 0x5000101⟩]
    s'.cfg = s.cfg ∧ s'.pins = s.pins ∧ SameHostRegs s s' ∧ s'.screen = s.screen ∧ s'.ramt = s.ramt ∧
    (∃ t, step s = .next t) ∧ (∃ t, step s' = .next t) :=
  ⟨rfl, rfl, ⟨rfl, rfl, rfl, rfl, rfl, rfl⟩, rfl, rfl, next_of_some (by decide +kernel),
    next_of_some (by decide +kernel)⟩
theorem witness_ConfigurationNeverChanges : ∃ t, step State.reset = .next t := next_of_some (by decide +kernel)
theorem witness_StepKeepsInvariant :
    (Inv State.reset ∧ ∃ t, step State.reset = .next t) ∧
    (Inv (onLine .k8 6 0) ∧ ∃ t, step (onLine .k8 6 0) = .next t) :=
  ⟨⟨inv_reset, next_of_some (by decide +kernel)⟩, inv_line_6, next_of_some (by decide +kernel)⟩
theorem witness_ResetStateMeetsInvariant : toy8Cfg.wellFormed = true := by decide
theorem witness_ReachableStatesMeetR49 :
    (Config.toy .k8).wellFormed = true ∧ (∃ s, Reachable (Config.toy .k8) s ∧ s.hcount = 1) := by
  obtain ⟨t, ht⟩ := next_of_some (o := runCycles 1 ((State.resetOf (Config.toy .k8)).withInputs [])) (by decide +kernel)
  have h1 : (nextOf (runCycles 1 ((State.resetOf (Config.toy .k8)).withInputs []))).map (·.hcount) = some 1 := by
    decide +kernel
  rw [ht] at h1
  exact ⟨by decide, t, ⟨[], 1, ht⟩, by simpa [nextOf] using h1⟩
theorem witness_EveryCycleCompletesWithinContract :
    (Inv State.reset ∧ TrimsKept State.reset) ∧ (Inv (onLine .k8 6 0) ∧ TrimsKept (onLine .k8 6 0)) :=
  ⟨⟨inv_reset, by decide, by decide⟩, inv_line_6, by decide, by decide⟩
/-- One state for each reason. -/
theorem witness_RefusalsHaveTheirReasons :
    step (State.resetOf { Config.toy .k8 with cpp := 3 }) = .refused .illFormedConfig ∧
    step { onLine .k8 6 54 with ltrim := 0x80 } = .refused .lineOutsidePeriod ∧
    step { toy8 with lineNumber := 5, hcount := 159, handler := .kernel, hTrim := 0xDF } =
      .refused .hTrimOutsideContract ∧
    step { toy8 with lineNumber := 19, hcount := 159, vTrim := 5 } = .refused .vTrimOutsideContract :=
  ⟨refused_of_some (by decide +kernel), refused_of_some (by decide +kernel), refused_of_some (by decide +kernel),
    refused_of_some (by decide +kernel)⟩
theorem witness_ScreenFetchesStayPopulated :
    Inv (onLine .k8 6 0) ∧ (onLine .k8 6 0).rendering = true ∧ 1 < (onLine .k8 6 0).cfg.fetchCols :=
  ⟨inv_line_6, by decide, by decide⟩
/-- A cycle in the middle of a line, and the tick that enters line 1. -/
theorem witness_RegionsFollowTheirOrder :
    (Inv (onLine .k8 6 0) ∧ (onLine .k8 6 0).pins.rst = 0 ∧ (∃ t, step (onLine .k8 6 0) = .next t) ∧
      ¬ (onLine .k8 6 0).hcount.toNat + 1 = (onLine .k8 6 0).cfg.hCycles) ∧
    (Inv (lastCycle 0) ∧ (lastCycle 0).pins.rst = 0 ∧ (∃ t, step (lastCycle 0) = .next t) ∧
      (lastCycle 0).hcount.toNat + 1 = (lastCycle 0).cfg.hCycles ∧ ((lastCycle 0).lineNumber + 1).toNat = 1) :=
  ⟨⟨inv_line_6, by decide, next_of_some (by decide +kernel), by decide⟩,
    inv_last_cycle 0 (by decide), by decide, next_of_some (by decide +kernel), by decide, by decide⟩
/-- The first and the last line of every region of TOY K8. -/
theorem witness_RegionFollowsTable :
    (∀ l ∈ [0, 1, 2, 3, 4, 9, 11], Inv (lastCycle l)) ∧ Inv (onLine .k8 6 0) ∧
    (lastCycle 2).lineNumber.toNat + 1 = (lastCycle 2).cfg.vsyncEnd ∧
    ((lastCycle 4).lineNumber.toNat : Int) + 1 = (lastCycle 4).asEff ∧
    ((lastCycle 9).lineNumber.toNat : Int) = (lastCycle 9).aeEff ∧
    (lastCycle 11).lineNumber.toNat + 1 = (lastCycle 11).cfg.linesPerFrame ∧
    (onLine .k8 6 0).asEff ≤ (onLine .k8 6 0).lineNumber.toNat ∧
    ((onLine .k8 6 0).lineNumber.toNat : Int) < (onLine .k8 6 0).aeEff := by
  refine ⟨fun l hl => inv_last_cycle l ?_, inv_line_6, ?_⟩
  · simp only [List.mem_cons, List.not_mem_nil, or_false] at hl
    omega
  · decide
/-- A period with a picture, in which the host writes a byte and a reset comes later; and one without. -/
theorem witness_PeriodEmitsItsRecord :
    (let s := (onLine .k8 6 0).withInputs [⟨0, 0x5000101⟩, Input.idle, ⟨1, 0⟩]
     Inv s ∧ s.hcount = 0 ∧ s.rendering = true ∧ 2 < s.cfg.hCycles ∧ ∀ p ∈ s.inputs.take 2, p.rst = 0) ∧
    (Inv State.reset ∧ State.reset.hcount = 0 ∧ State.reset.rendering = false ∧ 159 < State.reset.cfg.hCycles ∧
      ∀ p ∈ State.reset.inputs.take 159, p.rst = 0) :=
  ⟨⟨{ inv_line_6 with }, by decide, by decide, by decide, by decide⟩, inv_reset, by decide, by decide, by decide,
    by decide⟩
/-- V73, V74: a host write before the fetch cycle of its byte (54 for column 1) is in the picture; one in the fetch
cycle is not. -/
theorem test_picture_takes_bytes_at_their_fetch :
    ((onLine .k8 6 0).withInputs (List.replicate 53 Input.idle ++ [⟨0, 0x5000103⟩])).pictureCell 1 = 0x03 ∧
    ((onLine .k8 6 0).withInputs (List.replicate 54 Input.idle ++ [⟨0, 0x5000103⟩])).pictureCell 1 = 0x02 := by
  decide +kernel
/-- A host that only writes a register. -/
theorem witness_PictureShowsTheMemory :
    let s := (onLine .k8 6 0).withInputs [⟨0, 0x40000AB⟩]
    Inv s ∧ s.hcount = 0 ∧ s.rendering = true ∧ 1 < s.cfg.fetchCols ∧
    (∀ p ∈ s.inputs, p.rst = 0 ∧ decode (.hb p.hb) = .ok (.wrFontLo 0xAB)) ∧
    populated s.cfg (bankOf s.cfg (s.stored .screen (s.scrAddr 1))) (s.cellAddr (s.stored .screen (s.scrAddr 1))) =
      true :=
  ⟨{ inv_line_6 with }, by decide, by decide, by decide, by decide, by decide⟩
/-- The smallest frame of 5 lines of 16 cycles with one tile. -/
def tinyCfg : Cfg :=
  { Config.toy .k6 with
    hCycles := 16, hsyncW := 1, vsyncW := 2, linesPerFrame := 5, vsyncEnd := 2, activeStart := 3, activeEnd := 4
    hStart := 2, visCols := 1, bufCols := 1, bufRows := 1, trimEn := true }
/-- The one frame of a host that writes a legal trim and SCREEN, and a longer one of an idle host. -/
theorem witness_EveryFrameCountsOnce :
    (let s := (State.resetOf tinyCfg).withInputs [⟨0, 0x4000700⟩, ⟨0, 0x5000001⟩, ⟨0, 0x4000800⟩]
     Inv s ∧ s.hcount = 0 ∧ s.lineNumber = 0 ∧ (∀ p ∈ s.inputs, p.rst = 0) ∧ TrimsKept s ∧
     decode (.hb 0x4000700) = .ok (.wrHTrim 0) ∧ s.cfg.hTrimOk 0 = true ∧
     decode (.hb 0x4000800) = .ok (.wrVTrim 0) ∧ s.cfg.vTrimOk 0 = true ∧
     ∃ t, runCycles (s.cfg.linesPerFrame * s.cfg.hCycles) s = .next t) ∧
    (Inv State.reset ∧ TrimsKept State.reset ∧ State.reset.hcount = 0 ∧ State.reset.lineNumber = 0 ∧
     State.reset.inputs = []) := by
  refine ⟨⟨?_, by decide, by decide, by decide, ⟨by decide, by decide⟩, by decide, by decide, by decide, by decide,
    next_of_some (by decide +kernel)⟩, inv_reset, ⟨by decide, by decide⟩, by decide, by decide, by decide⟩
  exact ⟨by decide, by decide, by decide, by decide, by decide, by decide, by decide, by decide, by decide, by decide,
    fun h => absurd h (by decide), by decide, by decide, by decide, by decide, by decide⟩

/-- The state in which a wait returns, if it does. -/
def returnedOf (w : Wait) : Option State :=
  match w with
  | .returned s => some s
  | .waiting _ => none
  | .stopped => none

theorem returned_of_some {w : Wait} (h : (returnedOf w).isSome = true) : ∃ t, w = .returned t := by
  cases w with
  | returned t => exact ⟨t, rfl⟩
  | waiting t => simp [returnedOf] at h
  | stopped => simp [returnedOf] at h

/-- V64: WAITEND 1 in cycle 71 of line 9 returns at its first poll; and a wait for no frame. -/
theorem witness_WaitEndNeverReturnsEarly :
    ((∀ p ∈ (onLine .k8 9 71).inputs, p.rst = 0) ∧ ∃ t, waitEnd 1 2 1 (onLine .k8 9 71) = .returned t) ∧
    (∃ t, waitEnd 0 1 0 State.reset = .returned t) :=
  ⟨⟨by decide, returned_of_some (by decide +kernel)⟩, returned_of_some (by decide +kernel)⟩
/-- A VSG held in reset for as long as one round of WAITEND 1 lasts. -/
theorem witness_WaitEndNeverReturnsInReset :
    let s := (onLine .k8 9 71).withInputs (List.replicate 4 ⟨1, 0⟩)
    (∀ p ∈ s.inputs, p.rst = 1) ∧ s.irqQ = false ∧ 2 ≤ s.inputs.length ∧ 1 ≤ (1 : Byte).toNat ∧ 1 + 1 * (2 + 1) ≤ s.inputs.length := by
  decide

end Sys2Proof.Tests
end

section
/-! # Proofs of the statements on the scope (spec/00_scope.md)

The derived constants of a configuration, the constancy of the configuration, and the reasons of a refused step. The
facts about the machine's operations come first, in the order of the definitions they speak of: when the trim
contract fails, what each operation does to the configuration, and when each is refused. -/

namespace Sys2Proof.Machine

/-! ## The trim contract -/

/-- Only a build with trims can leave the horizontal contract (spec/43_display_config_ops.md R217). -/
theorem trimEn_of_not_hTrimOk {c : Cfg} {hTrim : Byte} (h : c.hTrimOk hTrim = false) : c.trimEn = true := by
  cases he : c.trimEn
  · simp [Cfg.hTrimOk, he] at h
  · rfl

/-- Only a build with trims can leave the vertical contract (spec/43_display_config_ops.md R217). -/
theorem trimEn_of_not_vTrimOk {c : Cfg} {vTrim : Byte} (h : c.vTrimOk vTrim = false) : c.trimEn = true := by
  cases he : c.trimEn
  · simp [Cfg.vTrimOk, he] at h
  · rfl

/-! ## No operation writes the configuration -/

theorem kBegin_keeps_cfg {scroll : Scroll} {s t : State} (h : kBegin scroll s = .next t) : t.cfg = s.cfg := by
  obtain ⟨-, rfl⟩ := (kBegin_next_iff scroll s t).1 h
  rfl

theorem execLineInactive_keeps_cfg {s t : State} (h : execLineInactive s = .next t) : t.cfg = s.cfg := by
  obtain ⟨-, -, rfl⟩ | ⟨-, -, rfl⟩ | ⟨-, -, -, rfl⟩ | ⟨-, -, -, rfl⟩ := execLineInactive_next s t h <;> rfl

theorem tick_keeps_cfg {s t : State} (h : tick s = .next t) : t.cfg = s.cfg := by
  rw [tick_eq] at h
  split at h
  next => exact (execLineInactive_keeps_cfg h).trans rfl
  next => exact (kBegin_keeps_cfg h).trans rfl

theorem counterStep_keeps_cfg {s t : State} (h : counterStep s = .next t) : t.cfg = s.cfg := by
  obtain ⟨-, ht⟩ | ⟨-, rfl⟩ := counterStep_next s t h
  · exact tick_keeps_cfg ht
  · rfl

theorem rendererCycle_keeps_cfg {s t : State} (h : rendererCycle s = .next t) : t.cfg = s.cfg := by
  obtain ⟨-, hc⟩ := rendererCycle_next s t h
  obtain ⟨-, hk, -⟩ := kernelCycle_frame s.clearStrobes
  calc t.cfg = (kernelCycle s.clearStrobes).cfg := counterStep_keeps_cfg hc
    _ = s.cfg := hk

/-! ## When an operation is refused -/

theorem kBegin_refused_iff (scroll : Scroll) (s : State) (r : Refusal) :
    kBegin scroll s = .refused r ↔ r = .hTrimOutsideContract ∧ s.cfg.hTrimOk s.hTrim = false := by
  unfold kBegin
  cases s.cfg.hTrimOk s.hTrim <;> simp [eq_comm (a := r)]

theorem execLineInactive_refused_iff (s : State) (r : Refusal) :
    execLineInactive s = .refused r ↔
      r = .vTrimOutsideContract ∧ s.atWrap (s.lineNumber + 1) = true ∧ s.cfg.vTrimOk s.vTrim = false := by
  simp only [execLineInactive]
  cases s.atWrap (s.lineNumber + 1)
  · cases s.atVsyncEnd (s.lineNumber + 1) <;> cases s.atActiveStart (s.lineNumber + 1) <;> simp
  · cases s.cfg.vTrimOk s.vTrim <;> simp [eq_comm (a := r)]

/-- A tick is refused by K.begin or by the wrap, as `handler` says. -/
theorem tick_refused {s : State} {r : Refusal} (h : tick s = .refused r) :
    (r = .hTrimOutsideContract ∧ s.handler = .kernel ∧ s.cfg.hTrimOk s.hTrim = false) ∨
    (r = .vTrimOutsideContract ∧ s.handler = .inactive ∧
      (s.lineNumber + 1).toNat = s.cfg.linesPerFrame ∧ s.cfg.vTrimOk s.vTrim = false) := by
  rw [tick_eq] at h
  cases hh : s.handler with
  | inactive =>
    rw [if_pos hh] at h
    obtain ⟨hr, hwrap, hv⟩ := (execLineInactive_refused_iff _ r).1 h
    exact .inr ⟨hr, rfl, of_decide_eq_true hwrap, hv⟩
  | kernel =>
    rw [if_neg (by simp [hh])] at h
    obtain ⟨hr, hv⟩ := (kBegin_refused_iff _ _ r).1 h
    exact .inl ⟨hr, rfl, hv⟩

theorem counterStep_refused_iff (s : State) (r : Refusal) :
    counterStep s = .refused r ↔ s.atTick = true ∧ tick s = .refused r := by
  unfold counterStep
  cases s.atTick <;> simp

theorem rendererCycle_refused {s : State} {r : Refusal} (h : rendererCycle s = .refused r) :
    (r = .lineOutsidePeriod ∧ s.rendering = true ∧ s.cfg.lineFits s.ltrim s.lh = false) ∨
    ((s.rendering = true → s.cfg.lineFits s.ltrim s.lh = true) ∧
      counterStep (kernelCycle s.clearStrobes) = .refused r) := by
  unfold rendererCycle at h
  split at h
  next hout =>
    obtain ⟨hr, hf⟩ : s.rendering = true ∧ s.cfg.lineFits s.ltrim s.lh = false := by simpa using hout
    exact .inl ⟨(Host.Outcome.refused.inj h).symm, hr, hf⟩
  next hin => exact .inr ⟨fun hr => by simpa [hr] using hin, h⟩

/-- K.end is the only event of a line that writes `handler`, and it never falls in the cycle of a tick. -/
theorem kernelCycle_handler_of_lastCycle {s : State} (hf : s.rendering = true → s.cfg.lineFits s.ltrim s.lh = true)
    (ht : s.hcount.toNat + 1 = s.cfg.hCycles) : (kernelCycle s).handler = s.handler := by
  obtain ⟨-, -, -, -, -, -, -, hrest⟩ := kernelCycle_frame s
  refine (hrest fun ⟨hr, hk⟩ => ?_).1
  exact s.not_atTick_of_kEndDue (hf hr) (of_decide_eq_true hk) ht

theorem joinHalves_next_refused_iff (host : State) (rend : Host.Outcome State Fault Refusal) (r : Refusal) :
    joinHalves (.next host) rend = .refused r ↔ rend = .refused r := by
  cases rend <;> simp [joinHalves]

/-- A step is refused for its configuration, or by the renderer: RESET and the host's half always answer. -/
theorem step_refused {s : State} {r : Refusal} (h : step s = .refused r) :
    (r = .illFormedConfig ∧ s.cfg.wellFormed = false) ∨ rendererCycle s.popInput = .refused r := by
  unfold step cycleStep at h
  split at h
  next =>
    right
    unfold clockCycle at h
    split at h
    next i hpin =>
      obtain ⟨-, rfl⟩ : s.pins.rst = 1 ∧ Instr.reset = i := by simpa [decodePin] using hpin
      simp [exec, execReset] at h
    next =>
      obtain ⟨host, hhost⟩ := host_half_next s
      rwa [hhost, joinHalves_next_refused_iff] at h
  next hw => exact .inl ⟨(Host.Outcome.refused.inj h).symm, by simpa using hw⟩

/-! ## The statements -/

/-- Settles O56, by the four variants. -/
theorem derivedConstantsFollowVariant : Obligations.DerivedConstantsFollowVariant := by
  intro c
  refine ⟨?_, ?_, rfl, rfl, rfl, ?_, ?_⟩
  · cases hv : c.variant <;> simp [Cfg.ppt, hv]
  · cases hv : c.variant <;> simp [Cfg.fetchCols, hv]
  · simp [Cfg.hasRam]
  · simp [Cfg.hasHScroll]

/-- Settles O43: RESET keeps the configuration, and a commit takes it from the renderer's half. -/
theorem configurationNeverChanges : Obligations.ConfigurationNeverChanges := by
  intro s t h
  obtain ⟨-, ⟨-, hreset⟩ | ⟨-, host, rend, -, hrend, rfl⟩⟩ := (step_next_iff s t).1 h
  · obtain rfl := Host.Outcome.next.inj hreset
    rfl
  · exact (rendererCycle_keeps_cfg hrend).trans s.popInput_cfg

/-- Settles O48: the refusal comes from the check of the configuration, the check of the line in progress, or the
tick; in the cycle of a tick the line's work leaves everything that the tick's contract checks read. -/
theorem refusalsHaveTheirReasons : Obligations.RefusalsHaveTheirReasons := by
  intro s r h
  obtain hcfg | hrend := step_refused h
  · exact .inl hcfg
  obtain hline | ⟨hfits, hcount⟩ := rendererCycle_refused hrend
  · exact .inr (.inl hline)
  obtain ⟨hlast, htick⟩ := (counterStep_refused_iff _ r).1 hcount
  obtain ⟨khcount, kcfg, kline, -, -, -, ⟨-, -, -, -, khTrim, kvTrim⟩, -⟩ :=
    kernelCycle_frame s.popInput.clearStrobes
  have hend : s.hcount.toNat + 1 = s.cfg.hCycles := by
    simpa [State.atTick, khcount, kcfg] using hlast
  have khandler := kernelCycle_handler_of_lastCycle (s := s.popInput.clearStrobes) hfits hend
  have hreason := tick_refused htick
  rw [khandler, kcfg, kline, khTrim, kvTrim] at hreason
  obtain ⟨hr, hk, hbad⟩ | ⟨hr, hi, hwrap, hbad⟩ := hreason
  · exact .inr (.inr (.inl ⟨hr, hend, hk, trimEn_of_not_hTrimOk hbad, hbad⟩))
  · exact .inr (.inr (.inr ⟨hr, hend, hi, hwrap, trimEn_of_not_vTrimOk hbad, hbad⟩))

end Sys2Proof.Machine
end

section
/-! # Proofs of the statements on the state (spec/10_state.md)

The reset state, the CONFIG byte, the invariant of a running VSG and the order of the regions. The facts come first, in
the order of the definitions they speak of: the frame in numbers, the row registers, what the invariant gives in a
cycle, and one lemma per thing a cycle can do, which says that the invariant is kept by it. -/

namespace Sys2Proof.Machine

/-! ## The frame in numbers -/

/-- The trim moves both ends of the active region alike (spec/41_line_state_machine.md R149). -/
theorem State.aeEff_eq_asEff_add {s : State} (h : s.cfg.wellFormed = true) : s.aeEff = s.asEff + s.cfg.nActive := by
  have := s.cfg.lines_of_wellFormed h
  unfold State.aeEff State.asEff Cfg.activeEndEff Cfg.activeStartEff Cfg.nActive
  omega

/-- A trim within the contract orders the thresholds of a frame (spec/43_display_config_ops.md R217). -/
theorem Cfg.activeEff_of_vTrimOk {c : Cfg} {vTrim : Byte} (h : c.wellFormed = true) (hv : c.vTrimOk vTrim = true) :
    (c.vsyncEnd : Int) < c.activeStartEff (if c.trimEn then vTrim else 0) ∧
      c.activeEndEff (if c.trimEn then vTrim else 0) < c.linesPerFrame := by
  cases he : c.trimEn
  · simpa using c.activeEff_zero h
  · simpa [Cfg.vTrimOk, he] using hv

/-- A line that fits its period lies behind its first cycle and ends before its last. -/
theorem Cfg.bounds_of_lineFits {c : Cfg} {trim : Byte} {scroll : Scroll} (h : c.lineFits trim scroll = true) :
    0 < c.lineEnd trim scroll ∧ c.lineEnd trim scroll + 2 ≤ c.hCycles := by
  obtain ⟨-, hstart, hend⟩ := of_decide_eq_true h
  refine ⟨?_, hend⟩
  unfold Cfg.lineEnd
  positivity

/-- A setup takes a row of the first tile row, because `TILE_H` exceeds the greatest scroll (W6). -/
theorem Cfg.vMax_lt_tileH {c : Cfg} (h : c.wellFormed = true) : c.vMax < c.tileH := by
  have hsizes := c.sizes_of_wellFormed h
  unfold Cfg.vMax
  split
  next hv =>
    have := c.tileH_of_vscroll h hv
    omega
  next => omega

/-- The buffer row of every row that a frame shows starts inside SCREEN, so that `row_ptr` never wraps (W7). -/
theorem Cfg.bufCols_mul_row_lt {c : Cfg} (h : c.wellFormed = true) {n : Nat} (hn : n < c.vMax + c.nActive) :
    c.bufCols * (n / c.tileH) < 65536 := by
  obtain ⟨hbuf, hscreen⟩ := c.buffer_of_wellFormed h
  have hpos := c.fetchCols_pos h
  have hrow : n / c.tileH ≤ c.maxRow := Nat.div_le_div_right (by omega)
  calc c.bufCols * (n / c.tileH) ≤ c.bufCols * c.maxRow := Nat.mul_le_mul_left _ hrow
    _ = c.maxRow * c.bufCols := Nat.mul_comm _ _
    _ < 65536 := by omega

/-! ## The row registers -/

/-- The setup leaves the row registers where no completed line has moved them (spec/41_line_state_machine.md R144). -/
theorem State.rowsAfter_setup {s : State} (h : s.cfg.wellFormed = true) (ln : BitVec 16) :
    ∃ v0, v0 ≤ s.cfg.vMax ∧ (s.setup ln).rowsAfter v0 0 := by
  have htile := Cfg.vMax_lt_tileH h
  suffices hv : (s.setup ln).tileRowOffset.toNat ≤ s.cfg.vMax by
    refine ⟨_, hv, ?_, ?_⟩
    · exact (Nat.mod_eq_of_lt (hv.trans_lt htile)).symm
    · show 0 = s.cfg.bufCols * ((s.setup ln).tileRowOffset.toNat / s.cfg.tileH)
      rw [Nat.div_eq_of_lt (hv.trans_lt htile), Nat.mul_zero]
  have hfine := s.vFine.isLt
  cases he : s.cfg.vscrollEn
  · simp [he]
  · simp [Cfg.vMax, he, scrollByte]
    omega

/-- The row advance moves the row registers by one line, as long as the row is one of the frame
(spec/42_pixel_kernels.md R172, R173). -/
theorem State.rowsAfter_advanceRow {s : State} (h : s.cfg.wellFormed = true) {v0 j : Nat} (hr : s.rowsAfter v0 j)
    (hj : v0 + (j + 1) < s.cfg.vMax + s.cfg.nActive) : s.advanceRow.rowsAfter v0 (j + 1) := by
  obtain ⟨-, hpos, hle, -⟩ := s.cfg.sizes_of_wellFormed h
  obtain ⟨hrow, hptr⟩ := hr
  have hwrap := Cfg.bufCols_mul_row_lt h hj
  have hsplit := Nat.mod_add_div (v0 + j) s.cfg.tileH
  have hlt := Nat.mod_lt (v0 + j) hpos
  unfold State.rowsAfter
  rw [State.advanceRow_eq]
  cases hlast : s.atLastTileRow
  · have hrow' := of_decide_eq_false hlast
    obtain ⟨hdiv, hmod⟩ := (Nat.div_mod_unique (a := v0 + (j + 1)) (d := (v0 + j) / s.cfg.tileH)
      (c := (v0 + j) % s.cfg.tileH + 1) hpos).2 ⟨by omega, by omega⟩
    simp [hdiv, hmod, hptr]
    omega
  · have hrow' := of_decide_eq_true hlast
    obtain ⟨hdiv, hmod⟩ := (Nat.div_mod_unique (a := v0 + (j + 1)) (d := (v0 + j) / s.cfg.tileH + 1) (c := 0) hpos).2
      ⟨by rw [Nat.mul_add]; omega, hpos⟩
    rw [hdiv, Nat.mul_add, Nat.mul_one] at hwrap
    simp [hdiv, hmod, hptr, Nat.mul_add, Nat.mod_eq_of_lt hwrap]

/-- The row advance keeps the row inside the tile. -/
theorem State.advanceRow_tileRowOffset_lt {s : State} (h : s.cfg.wellFormed = true)
    (hr : s.tileRowOffset.toNat < s.cfg.tileH) : s.advanceRow.tileRowOffset.toNat < s.cfg.tileH := by
  obtain ⟨-, hpos, hle, -⟩ := s.cfg.sizes_of_wellFormed h
  rw [State.advanceRow_eq]
  cases hlast : s.atLastTileRow
  · have := of_decide_eq_false hlast
    simp
    omega
  · simp
    omega

/-! ## Handler and region -/

/-- Outside the active region an idle machine waits with `handler` = Inactive. -/
theorem State.kernel_iff_active_of_outside {t : State} (h : t.cfg.wellFormed = true)
    (htrim : (t.cfg.vsyncEnd : Int) < t.asEff) (hh : t.handler = .inactive)
    (hline : (t.lineNumber.toNat : Int) < t.asEff ∨ t.aeEff ≤ t.lineNumber.toNat) :
    t.handler = .kernel ↔ t.region = .active := by
  obtain ⟨hv, -⟩ := t.cfg.lines_of_wellFormed h
  rw [t.region_eq_active_iff hv htrim, hh]
  simp
  omega

/-- Inside the active region an idle machine waits with `handler` = Kernel. -/
theorem State.kernel_iff_active_of_inside {t : State} (h : t.cfg.wellFormed = true)
    (htrim : (t.cfg.vsyncEnd : Int) < t.asEff) (hh : t.handler = .kernel)
    (hline : t.asEff ≤ t.lineNumber.toNat ∧ (t.lineNumber.toNat : Int) < t.aeEff) :
    t.handler = .kernel ↔ t.region = .active := by
  obtain ⟨hv, -⟩ := t.cfg.lines_of_wellFormed h
  rw [t.region_eq_active_iff hv htrim]
  exact iff_of_true hh hline

/-! ## What the invariant gives in a cycle -/

/-- The thresholds of a frame, in order. -/
theorem Inv.thresholds {s : State} (i : Inv s) :
    2 ≤ s.cfg.vsyncEnd ∧ (s.cfg.vsyncEnd : Int) < s.asEff ∧ s.asEff < s.aeEff ∧ s.aeEff < s.cfg.linesPerFrame := by
  have hlines := s.cfg.lines_of_wellFormed i.cfgOk
  obtain ⟨hbefore, hafter⟩ := i.trimKept
  refine ⟨hlines.1, hbefore, ?_, hafter⟩
  unfold State.asEff State.aeEff Cfg.activeStartEff Cfg.activeEndEff
  omega

/-- The line number never wraps at its 16 bits. -/
theorem Inv.lineNumber_succ {s : State} (i : Inv s) : (s.lineNumber + 1).toNat = s.lineNumber.toNat + 1 := by
  have := s.cfg.lines_of_wellFormed i.cfgOk
  have := i.lineLt
  simp
  omega

/-- Neither does the counter, but at the tick. -/
theorem Inv.hcount_succ {s : State} (i : Inv s) (ht : s.hcount.toNat + 1 ≠ s.cfg.hCycles) :
    (s.hcount + 1).toNat = s.hcount.toNat + 1 := by
  have := s.cfg.widths_of_wellFormed i.cfgOk
  have := i.hcountLt
  simp
  omega

/-- In the last cycle of a period no line is in progress (spec/40_scanline_timer_sync.md R123). -/
theorem Inv.not_rendering_of_lastCycle {s : State} (i : Inv s) (ht : s.hcount.toNat + 1 = s.cfg.hCycles) :
    s.rendering = false := by
  rw [← Bool.not_eq_true]
  intro hr
  obtain ⟨hfits, hend⟩ := i.busyFits hr
  have hbounds := Cfg.bounds_of_lineFits hfits
  unfold State.xEnd at hend
  omega

/-- Where an idle line with `handler` = Inactive lies. -/
theorem Inv.outside_of_inactive {s : State} (i : Inv s) (hr : s.rendering = false) (hh : s.handler = .inactive) :
    (s.lineNumber.toNat : Int) < s.asEff ∨ s.aeEff ≤ s.lineNumber.toNat := by
  have hv := (s.cfg.lines_of_wellFormed i.cfgOk).1
  have hidle := i.idleHandler hr
  rw [s.region_eq_active_iff hv i.trimKept.1, hh] at hidle
  simp at hidle
  omega

/-- Where an idle line with `handler` = Kernel lies. -/
theorem Inv.inside_of_kernel {s : State} (i : Inv s) (hr : s.rendering = false) (hh : s.handler = .kernel) :
    s.asEff ≤ s.lineNumber.toNat ∧ (s.lineNumber.toNat : Int) < s.aeEff := by
  have hv := (s.cfg.lines_of_wellFormed i.cfgOk).1
  exact (s.region_eq_active_iff hv i.trimKept.1).1 ((i.idleHandler hr).1 hh)

/-! ## Cycles within a period -/

/-- A cycle in which no event falls: the strobes fall and the counter goes on. -/
theorem countOn_keeps_inv {s : State} (i : Inv s) (ht : s.hcount.toNat + 1 ≠ s.cfg.hCycles)
    (hk : ¬ (s.rendering = true ∧ s.kEndDue = true)) : Inv { s.clearStrobes with hcount := s.hcount + 1 } :=
  have hnext := i.hcount_succ ht
  { i with
    hcountLt := by
      have := i.hcountLt
      show (s.hcount + 1).toNat < s.cfg.hCycles
      omega
    busyFits := fun hr => by
      obtain ⟨hfits, hend⟩ := i.busyFits hr
      have hnot : ¬ (s.hcount.toNat : Int) + 1 = s.xEnd := fun h => hk ⟨hr, decide_eq_true h⟩
      refine ⟨hfits, ?_⟩
      show ((s.hcount + 1).toNat : Int) < s.xEnd
      omega
    strobes := ⟨(nomatch ·), (nomatch ·)⟩ }

/-- The invariant looks at no register that a fetch writes. -/
theorem kernelCycle_keeps_inv {s : State} (i : Inv s) (ht : s.hcount.toNat + 1 ≠ s.cfg.hCycles)
    (hk : ¬ (s.rendering = true ∧ s.kEndDue = true)) :
    Inv { kernelCycle s.clearStrobes with hcount := s.hcount + 1 } := by
  have hon := countOn_keeps_inv i ht hk
  obtain ⟨-, h⟩ | ⟨-, col, -, h⟩ | ⟨-, -, -, h⟩ | ⟨hr, -, -, hend, -⟩ | ⟨-, -, -, -, h⟩ :=
    kernelCycle_cases s.clearStrobes
  · rwa [h]
  · rw [h]
    exact { hon with }
  · rw [h]
    exact { hon with }
  · exact absurd ⟨hr, hend⟩ hk
  · rwa [h]

/-- The line in progress counts as done once K.end has ended it. -/
theorem Inv.linesDone_of_completed {s : State} (i : Inv s) (hr : s.rendering = true) :
    State.linesDone { s with rendering := false } = s.linesDone + 1 := by
  obtain ⟨-, hfirst, -⟩ := i.busyHandler hr
  have hstart : State.asEff { s with rendering := false } = s.asEff := rfl
  simp only [State.linesDone, hr, hstart, if_true, Bool.false_eq_true, if_false]
  omega

/-- K.end completes the line: the row registers advance by one line, and the last line hands back
(spec/42_pixel_kernels.md R172, R174). -/
theorem kEnd_keeps_inv {s : State} (i : Inv s) (ht : s.hcount.toNat + 1 ≠ s.cfg.hCycles)
    (hr : s.rendering = true) (hk : (s.hcount.toNat : Int) + 1 = s.xEnd) :
    Inv { s.clearStrobes.kEnd with hcount := s.hcount + 1 } := by
  have hnext := i.hcount_succ ht
  have hcount := i.hcountLt
  have hdone := i.linesDone_of_completed hr
  have hrendered : s.linesDone = ((s.lineNumber.toNat : Int) - s.asEff - 1).toNat := by simp [State.linesDone, hr]
  obtain ⟨hh, hfirst, hlast⟩ := i.busyHandler hr
  obtain ⟨v0, hv0, hrows⟩ := i.rows hh
  have hspan := s.aeEff_eq_asEff_add i.cfgOk
  have htile := State.advanceRow_tileRowOffset_lt (s := s.clearStrobes) i.cfgOk i.tileRowLt
  have hadvance := State.rowsAfter_advanceRow (s := s.clearStrobes) i.cfgOk hrows
  rw [State.advanceRow_eq] at htile hadvance
  rw [State.kEnd_eq]
  exact { i with
    hcountLt := by
      show (s.hcount + 1).toNat < s.cfg.hCycles
      omega
    tileRowLt := htile
    idleHandler := fun _ => by
      by_cases hl : (s.lineNumber.toNat : Int) = s.aeEff
      · exact State.kernel_iff_active_of_outside i.cfgOk i.trimKept.1 (if_pos (decide_eq_true hl)) (.inr hl.ge)
      · exact State.kernel_iff_active_of_inside i.cfgOk i.trimKept.1
          ((if_neg fun h => hl (of_decide_eq_true h)).trans hh) ⟨hfirst.le, lt_of_le_of_ne hlast hl⟩
    busyHandler := (nomatch ·)
    busyFits := (nomatch ·)
    rows := fun hkernel => by
      have hl : (s.lineNumber.toNat : Int) ≠ s.aeEff := fun hl =>
        nomatch hkernel.symm.trans (if_pos (decide_eq_true hl))
      have hnextRow := hadvance (by show v0 + (s.linesDone + 1) < s.cfg.vMax + s.cfg.nActive; omega)
      rw [← hdone] at hnextRow
      exact ⟨v0, hv0, hnextRow⟩
    strobes := ⟨fun _ => ⟨rfl, by show 0 < (s.hcount + 1).toNat; omega⟩,
      fun _ => ⟨rfl, .inr (by show ((s.hcount + 1).toNat : Int) = s.xEnd; omega)⟩⟩ }

/-! ## The cycle of a tick -/

/-- What a tick has done when its line operation begins (spec/40_scanline_timer_sync.md R121): the strobes have fallen,
the counter is back at 0 and the pending width is in force. -/
def State.newPeriod (s : State) : State := { s.clearStrobes with hcount := 0, swActive := s.swPending }

/-- The tick in terms of `newPeriod`. -/
theorem tick_clearStrobes (s : State) :
    tick s.clearStrobes =
      if s.handler = .inactive then execLineInactive s.newPeriod
      else kBegin (if s.cfg.hasHScroll then s.hFine else 0) s.newPeriod :=
  tick_eq s.clearStrobes

section
variable {s : State} (i : Inv s) (hr : s.rendering = false)
include i hr

/-- Whichever way LINE.INACTIVE goes, cycle 0 of the new period shows its strobe and no line is in progress. -/
theorem Inv.restart : Inv { s.clearStrobes with hcount := 0, irqQ := true } :=
  { i with
    hcountLt := Nat.zero_lt_of_lt i.hcountLt
    busyFits := fun h => nomatch hr.symm.trans h
    strobes := ⟨(nomatch ·), fun _ => ⟨hr, .inl rfl⟩⟩ }

/-- The wrap: line 0 is outside the active region of every trim within the contract. -/
theorem wrap_keeps_inv (hh : s.handler = .inactive) (hw : s.lineNumber.toNat + 1 = s.cfg.linesPerFrame)
    (hv : s.cfg.vTrimOk s.vTrim = true) : Inv s.newPeriod.wrap.raiseIrq := by
  have hlines := s.cfg.lines_of_wellFormed i.cfgOk
  have htrim := Cfg.activeEff_of_vTrimOk i.cfgOk hv
  exact { i.restart hr with
    lineLt := Nat.zero_lt_of_lt i.lineLt
    trimKept := htrim
    trimOff := fun he => ⟨if_neg (Bool.eq_false_iff.1 he), (i.trimOff he).2⟩
    idleHandler := fun _ => State.kernel_iff_active_of_outside i.cfgOk htrim.1 hh
      (.inl (lt_of_le_of_lt (Int.natCast_nonneg _) htrim.1))
    busyHandler := fun h => nomatch hr.symm.trans h
    rows := fun h => nomatch hh.symm.trans h
    pendingV := fun _ => by
      show 0 < s.cfg.vsyncEnd
      omega
    activeV := fun h => by
      have := i.pendingV h
      omega }

/-- The vsync-end line is before the active region. -/
theorem vsyncEndTo_keeps_inv (hh : s.handler = .inactive) (hl : s.lineNumber.toNat + 1 = s.cfg.vsyncEnd) :
    Inv (s.newPeriod.vsyncEndTo (s.lineNumber + 1)).raiseIrq := by
  have hlines := s.cfg.lines_of_wellFormed i.cfgOk
  have hnext : (s.lineNumber + 1).toNat = s.cfg.vsyncEnd := i.lineNumber_succ.trans hl
  have hbefore : ((s.lineNumber + 1).toNat : Int) < s.asEff := by
    rw [hnext]
    exact i.trimKept.1
  exact { i.restart hr with
    lineLt := by
      show (s.lineNumber + 1).toNat < s.cfg.linesPerFrame
      omega
    idleHandler := fun _ => State.kernel_iff_active_of_outside i.cfgOk i.trimKept.1 hh (.inl hbefore)
    busyHandler := fun h => nomatch hr.symm.trans h
    rows := fun h => nomatch hh.symm.trans h
    pendingV := (nomatch ·)
    activeV := fun _ => by
      show 1 ≤ (s.lineNumber + 1).toNat ∧ (s.lineNumber + 1).toNat ≤ s.cfg.vsyncEnd
      omega }

/-- The setup enters the first line of the active region with no line done. -/
theorem setup_keeps_inv (hl : ((s.lineNumber + 1).toNat : Int) = s.asEff) :
    Inv (s.newPeriod.setup (s.lineNumber + 1)).raiseIrq := by
  have hnext := i.lineNumber_succ
  obtain ⟨-, hbefore, hnonempty, hafter⟩ := i.thresholds
  obtain ⟨v0, hv0, hrows⟩ := State.rowsAfter_setup (s := s.newPeriod) i.cfgOk (s.lineNumber + 1)
  have htile := Nat.mod_lt (v0 + 0) (Nat.zero_lt_of_lt (Cfg.vMax_lt_tileH i.cfgOk))
  have hdone : (s.newPeriod.setup (s.lineNumber + 1)).raiseIrq.linesDone = 0 := by
    show (((s.lineNumber + 1).toNat : Int) - s.asEff - (if s.rendering then 1 else 0)).toNat = 0
    simp only [hl, hr, sub_self, Bool.false_eq_true, if_false]
    rfl
  exact { i.restart hr with
    lineLt := by
      show (s.lineNumber + 1).toNat < s.cfg.linesPerFrame
      omega
    tileRowLt := hrows.1.trans_lt htile
    idleHandler := fun _ => State.kernel_iff_active_of_inside i.cfgOk hbefore rfl ⟨hl.ge, hl.trans_lt hnonempty⟩
    busyHandler := fun h => nomatch hr.symm.trans h
    rows := fun _ => ⟨v0, hv0, hdone ▸ hrows⟩
    pendingV := fun h => by
      have := i.pendingV h
      omega
    activeV := fun h => by
      have := i.pendingV h
      omega }

/-- Every other line with `handler` = Inactive stays on its side of the active region. -/
theorem countLine_keeps_inv (hh : s.handler = .inactive) (hw : s.lineNumber.toNat + 1 ≠ s.cfg.linesPerFrame)
    (hv : s.lineNumber.toNat + 1 ≠ s.cfg.vsyncEnd) (ha : ((s.lineNumber + 1).toNat : Int) ≠ s.asEff) :
    Inv { s.newPeriod with lineNumber := s.lineNumber + 1, irqQ := true } := by
  have hnext := i.lineNumber_succ
  have hline := i.lineLt
  have hside := i.outside_of_inactive hr hh
  exact { i.restart hr with
    lineLt := by
      show (s.lineNumber + 1).toNat < s.cfg.linesPerFrame
      omega
    idleHandler := fun _ => State.kernel_iff_active_of_outside i.cfgOk i.trimKept.1 hh (by
      show ((s.lineNumber + 1).toNat : Int) < s.asEff ∨ s.aeEff ≤ (s.lineNumber + 1).toNat
      omega)
    busyHandler := fun h => nomatch hr.symm.trans h
    rows := fun h => nomatch hh.symm.trans h
    pendingV := fun h => by
      have := i.pendingV h
      show (s.lineNumber + 1).toNat < s.cfg.vsyncEnd
      omega
    activeV := fun h => by
      have := i.pendingV h
      show 1 ≤ (s.lineNumber + 1).toNat ∧ (s.lineNumber + 1).toNat ≤ s.cfg.vsyncEnd
      omega }

/-- LINE.INACTIVE keeps the invariant, whichever of its four ways it goes. -/
theorem execLineInactive_keeps_inv {t : State} (hh : s.handler = .inactive)
    (h : execLineInactive s.newPeriod = .next t) : Inv t := by
  have hnext := i.lineNumber_succ
  obtain ⟨hw, hv, rfl⟩ | ⟨-, hv, rfl⟩ | ⟨-, -, ha, rfl⟩ | ⟨hw, hv, ha, rfl⟩ := execLineInactive_next _ _ h
  · exact wrap_keeps_inv i hr hh (hnext.symm.trans (of_decide_eq_true hw)) hv
  · exact vsyncEndTo_keeps_inv i hr hh (hnext.symm.trans (of_decide_eq_true hv))
  · exact setup_keeps_inv i hr (of_decide_eq_true ha)
  · exact countLine_keeps_inv i hr hh (hnext ▸ of_decide_eq_false hw) (hnext ▸ of_decide_eq_false hv)
      (of_decide_eq_false ha)

/-- K.begin starts the next line of the active region: it fits its period by the trim contract, and the lines done are
those of the tick before (spec/42_pixel_kernels.md R161, R162). -/
theorem kBegin_keeps_inv {t : State} {scroll : Scroll} (hh : s.handler = .kernel)
    (hs : s.cfg.hasHScroll = false → scroll = 0) (h : kBegin scroll s.newPeriod = .next t) : Inv t := by
  obtain ⟨hok, rfl⟩ := (kBegin_next_iff _ _ _).1 h
  have hfits := s.cfg.lineFits_of_contract i.cfgOk s.hTrim scroll hs hok
  have hnext := i.lineNumber_succ
  obtain ⟨hbefore, hafter⟩ := i.trimKept
  obtain ⟨hge, hlt⟩ := i.inside_of_kernel hr hh
  obtain ⟨v0, hv0, hrows⟩ := i.rows hh
  have hdone : s.linesDone = (((s.lineNumber + 1).toNat : Int) - s.asEff - (if true = true then 1 else 0)).toNat := by
    simp only [State.linesDone, hr, if_true, Bool.false_eq_true, if_false]
    omega
  exact { i with
    hcountLt := Nat.zero_lt_of_lt i.hcountLt
    lineLt := by
      show (s.lineNumber + 1).toNat < s.cfg.linesPerFrame
      omega
    trimOff := fun he => ⟨(i.trimOff he).1, if_neg (Bool.eq_false_iff.1 he)⟩
    scrollOff := hs
    idleHandler := (nomatch ·)
    busyHandler := fun _ => by
      refine ⟨hh, ?_⟩
      show s.asEff < (s.lineNumber + 1).toNat ∧ ((s.lineNumber + 1).toNat : Int) ≤ s.aeEff
      omega
    busyFits := fun _ => ⟨hfits, (Cfg.bounds_of_lineFits hfits).1⟩
    rows := fun _ => ⟨v0, hv0, by rw [hdone] at hrows; exact hrows⟩
    pendingV := fun h => by
      have := i.pendingV h
      omega
    activeV := fun h => by
      have := i.pendingV h
      omega
    strobes := ⟨(nomatch ·), (nomatch ·)⟩ }

/-- The tick keeps the invariant. -/
theorem tick_keeps_inv {t : State} (h : tick s.clearStrobes = .next t) : Inv t := by
  rw [tick_clearStrobes] at h
  cases hh : s.handler with
  | inactive =>
    rw [if_pos hh] at h
    exact execLineInactive_keeps_inv i hr hh h
  | kernel =>
    rw [if_neg (by simp [hh])] at h
    exact kBegin_keeps_inv i hr hh (fun hs => by simp [hs]) h

end

/-! ## Steps -/

/-- The renderer of a running VSG in a cycle: the tick, with no line in progress, or its work within a line. -/
theorem Inv.rendererCycle_cases {s r : State} (i : Inv s) (h : rendererCycle s = .next r) :
    (s.hcount.toNat + 1 = s.cfg.hCycles ∧ s.rendering = false ∧ tick s.clearStrobes = .next r) ∨
    (s.hcount.toNat + 1 ≠ s.cfg.hCycles ∧ r = { kernelCycle s.clearStrobes with hcount := s.hcount + 1 }) := by
  obtain ⟨-, hcount⟩ := rendererCycle_next s r h
  obtain ⟨khcount, kcfg, -⟩ := kernelCycle_frame s.clearStrobes
  obtain ⟨ht, htick⟩ | ⟨ht, rfl⟩ := counterStep_next _ _ hcount
  · have hlast := of_decide_eq_true ht
    rw [khcount, kcfg] at hlast
    have hr := i.not_rendering_of_lastCycle hlast
    have hidle : kernelCycle s.clearStrobes = s.clearStrobes := if_neg (by simp [hr])
    exact .inl ⟨hlast, hr, hidle ▸ htick⟩
  · have hnot := of_decide_eq_false ht
    rw [khcount, kcfg] at hnot
    exact .inr ⟨hnot, by rw [khcount]; rfl⟩

/-- The renderer's half of a cycle keeps the invariant. -/
theorem rendererCycle_keeps_inv {s r : State} (i : Inv s) (h : rendererCycle s = .next r) : Inv r := by
  obtain ⟨-, hr, htick⟩ | ⟨ht, rfl⟩ := i.rendererCycle_cases h
  · exact tick_keeps_inv i hr htick
  · by_cases hk : s.rendering = true ∧ s.kEndDue = true
    · rw [kernelCycle_of_kEndDue s.clearStrobes i.cfgOk hk.1 hk.2]
      exact kEnd_keeps_inv i ht hk.1 (of_decide_eq_true hk.2)
    · exact kernelCycle_keeps_inv i ht hk

/-- Of what the host writes, the invariant looks at the two memories only. -/
theorem commit_keeps_inv {h r : State} (i : Inv r) (hscreen : Memory.wf r.cfg.screenBytes h.screen = true)
    (hramt : Memory.wf (if r.cfg.hasRam then r.cfg.ramBytes else 0) h.ramt = true) : Inv (commit h r) :=
  { i with
    screenWf := hscreen
    ramtWf := hramt }

theorem popInput_keeps_inv {s : State} (i : Inv s) : Inv s.popInput := { i with }

/-- The reset state of a well-formed configuration. -/
theorem inv_resetOf {c : Cfg} (h : c.wellFormed = true) : Inv (State.resetOf c) := by
  have hwidths := c.widths_of_wellFormed h
  have hlines := c.lines_of_wellFormed h
  have hsizes := c.sizes_of_wellFormed h
  have htrim := c.activeEff_zero h
  exact {
    cfgOk := h
    hcountLt := by show 0 < c.hCycles; omega
    lineLt := by show 0 < c.linesPerFrame; omega
    tileRowLt := by show 0 < c.tileH; omega
    trimKept := htrim
    trimOff := fun _ => ⟨rfl, rfl⟩
    scrollOff := fun _ => rfl
    idleHandler := fun _ => State.kernel_iff_active_of_outside h htrim.1 rfl
      (.inl (lt_of_le_of_lt (Int.natCast_nonneg _) htrim.1))
    busyHandler := (nomatch ·)
    busyFits := (nomatch ·)
    rows := (nomatch ·)
    pendingV := (nomatch ·)
    activeV := (nomatch ·)
    strobes := ⟨(nomatch ·), (nomatch ·)⟩
    screenWf := rfl
    ramtWf := rfl }

/-- RESET leaves both memories, and with them their canonical form. -/
theorem execReset_keeps_inv {s t : State} (i : Inv s) (h : exec .reset s = .next t) : Inv t := by
  obtain rfl := Host.Outcome.next.inj h
  exact { inv_resetOf i.cfgOk with
    screenWf := i.screenWf
    ramtWf := i.ramtWf }

/-- Both halves of a cycle together keep the invariant. -/
theorem step_keeps_inv {s t : State} (i : Inv s) (h : step s = .next t) : Inv t := by
  obtain ⟨-, ⟨-, hreset⟩ | ⟨-, host, rend, hhost, hrend, rfl⟩⟩ := (step_next_iff s t).1 h
  · exact execReset_keeps_inv (popInput_keeps_inv i) hreset
  · have hcfg : rend.cfg = s.cfg := (rendererCycle_keeps_cfg hrend).trans s.popInput_cfg
    obtain ⟨hscreen, hramt⟩ := decodeHb_cases
      (fun op => exec op s.popInput = .next host → Memory.wf s.cfg.screenBytes host.screen = true ∧
        Memory.wf (if s.cfg.hasRam then s.cfg.ramBytes else 0) host.ramt = true) s.pins.hb
      (fun op hop _ he => exec_hb_wf op hop s.popInput host he i.screenWf i.ramtWf) hhost
    exact commit_keeps_inv (rendererCycle_keeps_inv (popInput_keeps_inv i) hrend) (by rwa [hcfg]) (by rwa [hcfg])

/-! ## Runs -/

/-- What holds of a state and is kept by every step holds wherever a run arrives. -/
theorem runCycles_keeps {P : State → Prop} (hP : ∀ s t, P s → step s = .next t → P t) {n : Nat} {s t : State}
    (hs : P s) (h : runCycles n s = .next t) : P t := by
  induction n generalizing s with
  | zero =>
    obtain rfl := Host.Outcome.next.inj h
    exact hs
  | succ n ih =>
    unfold runCycles at h
    split at h
    next u hu => exact ih (hP s u hs hu) h
    next => nomatch h
    next => nomatch h

/-- A state that a host can bring VSG to. -/
theorem Reachable.inv {c : Cfg} {s : State} (hc : c.wellFormed = true) (h : Reachable c s) : Inv s ∧ s.cfg = c := by
  obtain ⟨ps, n, hrun⟩ := h
  have hstart : Inv ((State.resetOf c).withInputs ps) := { inv_resetOf hc with }
  exact runCycles_keeps (P := fun u => Inv u ∧ u.cfg = c)
    (fun u v ⟨hi, hcfg⟩ hstep => ⟨step_keeps_inv hi hstep, (configurationNeverChanges u v hstep).trans hcfg⟩)
    ⟨hstart, rfl⟩ hrun

/-! ## The regions in order -/

/-- Region and thresholds depend on the configuration and the trim in force only. -/
theorem State.region_eq_regionOf {s t : State} (hcfg : t.cfg = s.cfg) (htrim : t.vTrimL = s.vTrimL) :
    t.region = s.regionOf t.lineNumber.toNat := by
  unfold State.region State.regionOf
  rw [State.asEff_congr hcfg htrim, State.aeEff_congr hcfg htrim, hcfg]

theorem State.regionOf_zero (s : State) : s.regionOf 0 = .preSync := if_pos rfl

section
variable {s : State} {l : Nat}

theorem State.regionOf_eq_sync (hl : 1 ≤ l) (hv : l < s.cfg.vsyncEnd) : s.regionOf l = .sync := by
  unfold State.regionOf
  rw [if_neg (by omega), if_pos hv]

variable (hv : s.cfg.vsyncEnd ≤ l) (h0 : 0 < s.cfg.vsyncEnd)
include hv h0

theorem State.regionOf_eq_postSync (hs : (l : Int) < s.asEff) : s.regionOf l = .postSync := by
  unfold State.regionOf
  rw [if_neg (by omega), if_neg (by omega), if_pos hs]

theorem State.regionOf_eq_active (hs : s.asEff ≤ l) (he : (l : Int) < s.aeEff) : s.regionOf l = .active := by
  unfold State.regionOf
  rw [if_neg (by omega), if_neg (by omega), if_neg (by omega), if_pos he]

theorem State.regionOf_eq_postActive (hs : s.asEff ≤ l) (he : s.aeEff ≤ l) : s.regionOf l = .postActive := by
  unfold State.regionOf
  rw [if_neg (by omega), if_neg (by omega), if_neg (by omega), if_neg (by omega)]

end

/-- The regions and their successors (spec/41_line_state_machine.md R148). -/
def regionOrder : List (Region × Region) :=
  [(.preSync, .sync), (.sync, .postSync), (.postSync, .active), (.active, .postActive), (.postActive, .preSync)]

/-- A line that is a threshold is the first of the next region. -/
theorem Inv.regionOf_succ_of_boundary {s : State} (i : Inv s) {l : Nat}
    (hl : l + 1 = 1 ∨ l + 1 = s.cfg.vsyncEnd ∨ ((l + 1 : Nat) : Int) = s.aeEff ∨ ((l + 1 : Nat) : Int) = s.asEff) :
    (s.regionOf l, s.regionOf (l + 1)) ∈ regionOrder := by
  obtain ⟨hv, hs, he, -⟩ := i.thresholds
  obtain h | h | h | h := hl
  · obtain rfl : l = 0 := by omega
    rw [s.regionOf_zero, State.regionOf_eq_sync (by omega) (by omega)]
    decide
  · rw [State.regionOf_eq_sync (l := l) (by omega) (by omega),
      State.regionOf_eq_postSync (by omega) (by omega) (by omega)]
    decide
  · rw [State.regionOf_eq_active (l := l) (by omega) (by omega) (by omega) (by omega),
      State.regionOf_eq_postActive (by omega) (by omega) (by omega) (by omega)]
    decide
  · rw [State.regionOf_eq_postSync (l := l) (by omega) (by omega) (by omega),
      State.regionOf_eq_active (by omega) (by omega) (by omega) (by omega)]
    decide

/-- Any other line lies in the region of the line before it. -/
theorem Inv.regionOf_succ_of_not_boundary {s : State} (i : Inv s) {l : Nat} (h1 : l + 1 ≠ 1)
    (hv : l + 1 ≠ s.cfg.vsyncEnd) (he : ((l + 1 : Nat) : Int) ≠ s.aeEff) (hs : ((l + 1 : Nat) : Int) ≠ s.asEff) :
    s.regionOf (l + 1) = s.regionOf l := by
  obtain ⟨h2, hvs, hse, -⟩ := i.thresholds
  have hpos : 0 < s.cfg.vsyncEnd := by omega
  by_cases hsync : l < s.cfg.vsyncEnd
  · rw [State.regionOf_eq_sync (l := l) (by omega) hsync, State.regionOf_eq_sync (by omega) (by omega)]
  have hv' : s.cfg.vsyncEnd ≤ l := by omega
  by_cases hpost : (l : Int) < s.asEff
  · rw [State.regionOf_eq_postSync hv' hpos hpost, State.regionOf_eq_postSync (by omega) hpos (by omega)]
  by_cases hactive : (l : Int) < s.aeEff
  · rw [State.regionOf_eq_active hv' hpos (by omega) hactive,
      State.regionOf_eq_active (by omega) hpos (by omega) (by omega)]
  · rw [State.regionOf_eq_postActive hv' hpos (by omega) (by omega),
      State.regionOf_eq_postActive (by omega) hpos (by omega) (by omega)]

/-- The line number after a tick: 0 at the wrap, which alone latches a trim, else one more. -/
theorem Inv.tick_lineNumber {s t : State} (i : Inv s) (hr : s.rendering = false)
    (h : tick s.clearStrobes = .next t) :
    (s.lineNumber.toNat + 1 = s.cfg.linesPerFrame ∧ t.lineNumber = 0) ∨
    (s.lineNumber.toNat + 1 ≠ s.cfg.linesPerFrame ∧ t.lineNumber = s.lineNumber + 1 ∧ t.vTrimL = s.vTrimL) := by
  rw [tick_clearStrobes] at h
  have hnext := i.lineNumber_succ
  cases hh : s.handler with
  | inactive =>
    rw [if_pos hh] at h
    obtain ⟨hw, -, rfl⟩ | ⟨hw, -, rfl⟩ | ⟨hw, -, -, rfl⟩ | ⟨hw, -, -, rfl⟩ := execLineInactive_next _ _ h
    · exact .inl ⟨hnext.symm.trans (of_decide_eq_true hw), rfl⟩
    all_goals exact .inr ⟨hnext ▸ of_decide_eq_false hw, rfl, rfl⟩
  | kernel =>
    rw [if_neg (by simp [hh])] at h
    obtain ⟨-, rfl⟩ := (kBegin_next_iff _ _ _).1 h
    obtain ⟨-, hlt⟩ := i.inside_of_kernel hr hh
    obtain ⟨-, hafter⟩ := i.trimKept
    exact .inr ⟨by omega, rfl, rfl⟩

/-- The line number moves at a tick only. -/
theorem Inv.step_lineNumber {s t : State} (i : Inv s) (h0 : s.pins.rst = 0) (h : step s = .next t) :
    (s.hcount.toNat + 1 ≠ s.cfg.hCycles ∧ t.lineNumber = s.lineNumber ∧ t.vTrimL = s.vTrimL) ∨
    (s.hcount.toNat + 1 = s.cfg.hCycles ∧ s.lineNumber.toNat + 1 = s.cfg.linesPerFrame ∧ t.lineNumber = 0) ∨
    (s.hcount.toNat + 1 = s.cfg.hCycles ∧ s.lineNumber.toNat + 1 ≠ s.cfg.linesPerFrame ∧
      t.lineNumber = s.lineNumber + 1 ∧ t.vTrimL = s.vTrimL) := by
  obtain ⟨-, ⟨h1, -⟩ | ⟨-, host, rend, -, hrend, rfl⟩⟩ := (step_next_iff s t).1 h
  · exact absurd (h0.symm.trans h1) (by decide)
  obtain ⟨ht, hr, htick⟩ | ⟨ht, rfl⟩ := (popInput_keeps_inv i).rendererCycle_cases hrend
  · exact .inr (((popInput_keeps_inv i).tick_lineNumber hr htick).imp (⟨ht, ·⟩) (⟨ht, ·⟩))
  · obtain ⟨-, -, kline, -, -, ktrim, -⟩ := kernelCycle_frame s.popInput.clearStrobes
    exact .inl ⟨ht, kline, ktrim⟩

/-! ## The CONFIG byte -/

/-- The fields of CONFIG, from the highest bit down (spec/10_state.md R40). -/
theorem configByte_fields (c : Cfg) :
    (configByte c).extractLsb' 0 2 = c.variant.code ∧ (configByte c).getLsbD 2 = decide (c.cpp = 4) ∧
    (configByte c).getLsbD 3 = c.msbFirst ∧ (configByte c).getLsbD 4 = c.vscrollEn ∧
    (configByte c).getLsbD 5 = c.trimEn ∧ (configByte c).getLsbD 6 = decide (c.tileLayout = .rowMajor) ∧
    (configByte c).getLsbD 7 = decide (c.standard = .pal) := by
  refine ⟨BitVec.extractLsb'_append_eq_right, ?_⟩
  simp only [configByte, bit, BitVec.getLsbD_append, BitVec.getLsbD_ofBool]
  simp

/-- The word of RD.CONFIG, whatever its write data. -/
theorem decode_rdConfig (x : Byte) : decode (.hb ((0x8000B : BitVec 20) ++ x)) = .ok .rdConfig := by
  rw [show (0x8000B : BitVec 20) ++ x = hbWord 1 0 0 11 x from rfl]
  simp [decode, decodeHb]
  rfl

/-! ## The statements -/

/-- Settles O45: RESET restores the invariant, and the renderer's half of a cycle keeps it, be it a tick, K.end or a
cycle with neither; the host's half changes nothing that it looks at but the memories. -/
theorem stepKeepsInvariant : Obligations.StepKeepsInvariant :=
  fun _ _ hinv hstep => step_keeps_inv hinv hstep

/-- Settles O46, by the invariant of every reachable state. -/
theorem reachableStatesMeetR49 : Obligations.ReachableStatesMeetR49 := by
  intro c s hc hreach
  obtain ⟨hinv, rfl⟩ := hreach.inv hc
  refine ⟨hinv.lineLt, hinv.tileRowLt, fun hr => (hinv.busyHandler hr).1, fun hlast => ?_⟩
  have hidle : s.rendering = false := hinv.not_rendering_of_lastCycle (by
    have := hinv.hcountLt
    omega)
  exact ⟨hidle, hinv.idleHandler hidle⟩

/-- Settles O50: the line number moves at a tick only, to the next line or to line 0. -/
theorem regionsFollowTheirOrder : Obligations.RegionsFollowTheirOrder := by
  intro s t hinv h0 hstep
  have hcfg := configurationNeverChanges s t hstep
  obtain ⟨hv, hs, he, hf⟩ := hinv.thresholds
  have hnext := hinv.lineNumber_succ
  obtain ⟨hnot, hline, htrim⟩ | ⟨hlast, hwrap, hline⟩ | ⟨hlast, hnowrap, hline, htrim⟩ :=
    hinv.step_lineNumber h0 hstep
  · rw [if_neg (hnot ·.1), State.region_eq_regionOf hcfg htrim, hline]
    rfl
  · rw [if_pos ⟨hlast, .inl (hnext.trans hwrap)⟩]
    have hfrom : s.region = .postActive :=
      State.regionOf_eq_postActive (by omega) (by omega) (by omega) (by omega)
    have hto : t.region = .preSync := by
      unfold State.region
      rw [hline]
      exact t.regionOf_zero
    rw [hfrom, hto]
    decide
  · rw [State.region_eq_regionOf hcfg htrim, hline, hnext]
    split
    next hboundary => exact hinv.regionOf_succ_of_boundary (hboundary.2.resolve_left hnowrap)
    next hinside =>
      simp only [hlast, true_and, not_or] at hinside
      obtain ⟨-, h1, hv', he', hs'⟩ := hinside
      exact hinv.regionOf_succ_of_not_boundary h1 hv' he' hs'

/-- Settles O3, row by row of R48. -/
theorem resetStateValues : Obligations.ResetStateValues := by
  intro c scr ram hc
  have hwidths := c.widths_of_wellFormed hc
  refine ⟨by simp [AtResetValues], State.regionOf_zero _, rfl, fun a b hb => ?_, rfl, ?_, rfl, rfl⟩
  · simp [State.stored, List.getD, hb]
  · exact decide_eq_false (Nat.not_le_of_lt hwidths.1)

/-- Settles O12, field by field of the CONFIG byte. -/
theorem configReadGivesTheOptions : Obligations.ConfigReadGivesTheOptions := by
  intro s x
  obtain ⟨hcode, hrest⟩ := configByte_fields s.cfg
  refine ⟨configByte s.cfg, decode_rdConfig x, rfl, ?_, hrest⟩
  rw [hcode]
  cases s.cfg.variant <;> rfl

/-- Settles O44: the reset state has every register at rest, and line 0 is outside the active region. -/
theorem resetStateMeetsInvariant : Obligations.ResetStateMeetsInvariant :=
  fun _ hc => inv_resetOf hc

end Sys2Proof.Machine
end

section
/-! # Proofs of the statements on the memory (spec/20_memory.md)

The picture of a line under a host that writes no byte. The facts come first, in the order of the definitions they speak
of: reads of the memories, the cell addresses of a line in progress, what the host and the renderer leave of the
memories and of the inputs to come, and what a run keeps. -/

namespace Sys2Proof.Machine

/-! ## Reads of the memories -/

theorem State.memRead_of_populated {s : State} {sp : Space} {a : Addr} (h : populated s.cfg sp a = true) (free : Byte) :
    s.memRead sp a free = s.stored sp a := if_pos h

/-- Everything that a read depends on is the same: the configuration, with ROM in it, and both writable memories. -/
def SameContents (s t : State) : Prop := t.cfg = s.cfg ∧ t.screen = s.screen ∧ t.ramt = s.ramt

theorem SameContents.stored {s t : State} (h : SameContents s t) (sp : Space) (a : Addr) :
    t.stored sp a = s.stored sp a := by
  obtain ⟨hcfg, hscreen, hramt⟩ := h
  cases sp <;> simp [State.stored, hcfg, hscreen, hramt]

theorem SameContents.memRead {s t : State} (h : SameContents s t) (sp : Space) (a : Addr) (free : Byte) :
    t.memRead sp a free = s.memRead sp a free := by
  have ⟨hcfg, _, _⟩ := h
  unfold State.memRead
  rw [h.stored, hcfg]

/-! ## The cells of the line in progress -/

/-- Every column of every row that a frame shows has its cell in SCREEN (W7). -/
theorem Cfg.bufCols_mul_row_add_lt {c : Cfg} (h : c.wellFormed = true) {n col : Nat} (hn : n < c.vMax + c.nActive)
    (hcol : col < c.fetchCols) : c.bufCols * (n / c.tileH) + col < c.screenBytes := by
  have hbuf := (c.buffer_of_wellFormed h).1
  have hrow : n / c.tileH ≤ c.maxRow := Nat.div_le_div_right (by omega)
  calc c.bufCols * (n / c.tileH) + col ≤ c.maxRow * c.bufCols + col := by
        rw [Nat.mul_comm]
        exact Nat.add_le_add_right (Nat.mul_le_mul_right _ hrow) _
    _ < c.screenBytes := by omega

/-- The line in progress is not among the lines done, so that fewer are done than the active region has. -/
theorem Inv.linesDone_lt {s : State} (i : Inv s) (hr : s.rendering = true) : s.linesDone < s.cfg.nActive := by
  obtain ⟨-, hfirst, hlast⟩ := i.busyHandler hr
  have hspan := s.aeEff_eq_asEff_add i.cfgOk
  simp only [State.linesDone, hr, if_true]
  omega

/-- `row_ptr` and the last column it is used with stay inside SCREEN (spec/42_pixel_kernels.md R163, R173). -/
theorem Inv.rowPtr_add_lt {s : State} (i : Inv s) (hr : s.rendering = true) {col : Nat} (hcol : col < s.cfg.fetchCols) :
    s.rowPtr.toNat + col < s.cfg.screenBytes := by
  obtain ⟨v0, hv0, -, hptr⟩ := i.rows (i.busyHandler hr).1
  have hdone := i.linesDone_lt hr
  rw [hptr]
  exact Cfg.bufCols_mul_row_add_lt i.cfgOk (by omega) hcol

/-- `ScrAddr` does not wrap at its 16 bits (spec/42_pixel_kernels.md R163). -/
theorem Inv.scrAddr_toNat {s : State} (i : Inv s) (hr : s.rendering = true) {col : Nat} (hcol : col < s.cfg.fetchCols) :
    (s.scrAddr col).toNat = s.rowPtr.toNat + col := by
  have hin := i.rowPtr_add_lt hr hcol
  have hsize := (s.cfg.buffer_of_wellFormed i.cfgOk).2
  simp only [State.scrAddr, BitVec.toNat_add, BitVec.toNat_ofNat]
  omega

/-- No cell fetch of a line meets an unpopulated address (spec/42_pixel_kernels.md R163, spec/20_memory.md R73). -/
theorem Inv.scrAddr_populated {s : State} (i : Inv s) (hr : s.rendering = true) {col : Nat}
    (hcol : col < s.cfg.fetchCols) : populated s.cfg .screen (s.scrAddr col) = true :=
  decide_eq_true ((i.scrAddr_toNat hr hcol).trans_lt (i.rowPtr_add_lt hr hcol))

/-! ## The host's half of a cycle -/

/-- The bus word of these pins writes no byte of SCREEN or RAMT. -/
def Input.WritesNoMemory (p : Input) : Prop :=
  ∀ a d, decode (.hb p.hb) ≠ .ok (.wrs a d) ∧ decode (.hb p.hb) ≠ .ok (.wrt a d)

/-- With no inputs left the host is idle, and a NOP writes nothing (log 3). -/
theorem idle_writesNoMemory : Input.idle.WritesNoMemory := by
  have hnop : decode (.hb Input.idle.hb) = .ok .nop := rfl
  intro a d
  simp [hnop]

/-- A word is decoded to an operation of its own format. -/
theorem encode_decodeHb (w : HbWord) : ∃ x, encode (decodeHb w) = .hb x :=
  decodeHb_cases (fun op => ∃ x, encode op = .hb x) w fun _ hop _ => hop

/-- WRS and WRT are the only operations of format HB that write a memory (spec/20_memory.md R61). -/
theorem exec_hb_keeps_memories {op : Instr} (hop : ∃ x, encode op = .hb x) (hwrs : ∀ a d, op ≠ .wrs a d)
    (hwrt : ∀ a d, op ≠ .wrt a d) {s t : State} (h : exec op s = .next t) : t.screen = s.screen ∧ t.ramt = s.ramt := by
  obtain ⟨x, hx⟩ := hop
  cases op with
  | wrs a d => exact absurd rfl (hwrs a d)
  | wrt a d => exact absurd rfl (hwrt a d)
  | reset | lineInactive | lineK6 | lineK8 | lineK8r | lineK8rs => exact nomatch hx
  | _ =>
    obtain rfl := Host.Outcome.next.inj h
    exact ⟨rfl, rfl⟩

/-- The host's half of a cycle whose word writes no memory. -/
theorem host_half_keeps_memories {p : Input} (hp : p.WritesNoMemory) {s t : State}
    (h : exec (decodeHb p.hb) s = .next t) : t.screen = s.screen ∧ t.ramt = s.ramt :=
  exec_hb_keeps_memories (encode_decodeHb p.hb) (fun a d he => (hp a d).1 (congrArg Except.ok he))
    (fun a d he => (hp a d).2 (congrArg Except.ok he)) h

/-! ## The inputs to come -/

theorem kernelCycle_keeps_inputs (s : State) : (kernelCycle s).inputs = s.inputs := by
  obtain ⟨-, h⟩ | ⟨-, col, -, h⟩ | ⟨-, -, -, h⟩ | ⟨-, -, -, -, h⟩ | ⟨-, -, -, -, h⟩ := kernelCycle_cases s
  · rw [h]
  · rw [h, State.fetchCell_inputs]
  · rw [h, State.fetchTile_inputs]
  · rw [h, State.kEnd_eq]
  · rw [h]

theorem tick_keeps_inputs {s t : State} (h : tick s = .next t) : t.inputs = s.inputs := by
  rw [tick_eq] at h
  split at h
  next => obtain ⟨-, -, rfl⟩ | ⟨-, -, rfl⟩ | ⟨-, -, -, rfl⟩ | ⟨-, -, -, rfl⟩ := execLineInactive_next _ t h <;> rfl
  next =>
    obtain ⟨-, rfl⟩ := (kBegin_next_iff _ _ t).1 h
    rfl

theorem rendererCycle_keeps_inputs {s t : State} (h : rendererCycle s = .next t) : t.inputs = s.inputs := by
  obtain ⟨-, hcount⟩ := rendererCycle_next s t h
  have hk := kernelCycle_keeps_inputs s.clearStrobes
  obtain ⟨-, htick⟩ | ⟨-, rfl⟩ := counterStep_next _ t hcount
  · exact (tick_keeps_inputs htick).trans hk
  · exact hk

/-- A step takes the pins of its cycle off the inputs, be it a RESET or not. -/
theorem step_inputs {s t : State} (h : step s = .next t) : t.inputs = s.inputs.tail := by
  obtain ⟨-, ⟨-, hreset⟩ | ⟨-, host, rend, -, hrend, rfl⟩⟩ := (step_next_iff s t).1 h
  · obtain rfl := Host.Outcome.next.inj hreset
    rfl
  · exact rendererCycle_keeps_inputs hrend

/-! ## Steps and runs -/

/-- A step whose word writes no memory keeps what the memories hold; RESET keeps it anyway
(spec/70_reset_and_hazards.md R280). -/
theorem step_sameContents {s t : State} (hp : s.pins.WritesNoMemory) (h : step s = .next t) : SameContents s t := by
  refine ⟨configurationNeverChanges s t h, ?_⟩
  obtain ⟨-, ⟨-, hreset⟩ | ⟨-, host, rend, hhost, -, rfl⟩⟩ := (step_next_iff s t).1 h
  · obtain rfl := Host.Outcome.next.inj hreset
    exact ⟨rfl, rfl⟩
  · obtain ⟨hscreen, hramt⟩ := host_half_keeps_memories hp hhost
    exact ⟨hscreen, hramt⟩

/-- None of the coming cycles writes a byte of SCREEN or RAMT. -/
def State.HostWritesNoMemory (s : State) : Prop := ∀ p ∈ s.inputs, p.WritesNoMemory

theorem State.HostWritesNoMemory.pins {s : State} (h : s.HostWritesNoMemory) : s.pins.WritesNoMemory := by
  unfold State.pins
  cases hi : s.inputs with
  | nil => exact idle_writesNoMemory
  | cons p ps => exact h p (by simp [hi])

theorem State.HostWritesNoMemory.of_step {s t : State} (h : s.HostWritesNoMemory) (hstep : step s = .next t) :
    t.HostWritesNoMemory := by
  intro p hp
  rw [step_inputs hstep] at hp
  exact h p (List.mem_of_mem_tail hp)

/-- What holds of a state and is kept by every step holds `n` cycles on; where VSG stops before, `after` is the state
itself. -/
theorem State.after_keeps {P : State → Prop} (hP : ∀ u v, P u → step u = .next v → P v) {s : State} (hs : P s)
    (n : Nat) : P (s.after n) := by
  unfold State.after
  split
  next t ht => exact runCycles_keeps hP hs ht
  next => exact hs
  next => exact hs

/-- Under a host that writes no memory, every read gives what it gives now. -/
theorem State.HostWritesNoMemory.after_sameContents {s : State} (h : s.HostWritesNoMemory) (n : Nat) :
    SameContents s (s.after n) := by
  refine (State.after_keeps (P := fun u => SameContents s u ∧ u.HostWritesNoMemory) ?_ ⟨⟨rfl, rfl, rfl⟩, h⟩ n).1
  rintro u v ⟨⟨hcfg, hscreen, hramt⟩, hu⟩ hstep
  obtain ⟨hcfg', hscreen', hramt'⟩ := step_sameContents hu.pins hstep
  exact ⟨⟨hcfg'.trans hcfg, hscreen'.trans hscreen, hramt'.trans hramt⟩, hu.of_step hstep⟩

/-! ## The statement -/

/-- Settles O58: both fetches of a column read memories that hold what they held at the start of the period, and W7
puts every cell of a rendered line inside SCREEN. -/
theorem pictureShowsTheMemory : Obligations.PictureShowsTheMemory := by
  intro s col hinv _ hr hcol hhost
  have hquiet : s.HostWritesNoMemory := fun p hp => (hhost p hp).2
  have hcell : s.pictureCell col = s.stored .screen (s.scrAddr col) := by
    unfold State.pictureCell
    rw [(hquiet.after_sameContents _).memRead, State.memRead_of_populated (hinv.scrAddr_populated hr hcol)]
  refine ⟨hcell, fun hpop => ?_⟩
  unfold State.pictureByte
  rw [hcell, (hquiet.after_sameContents _).memRead, State.memRead_of_populated hpop]

end Sys2Proof.Machine
end

section
/-! # Proofs of the statements on the encodings (spec/30_encoding.md)

The round trip of the encoder, the ordered table of format HB, the sequencer's selector, what every host word does, and
a step in terms of the decoded operations. The facts come first, in the order of the definitions they speak of: the
register addresses, the words of the encoder, masks and rows of the table, the selector, and the two halves of a cycle. -/

namespace Sys2Proof

/-! ## Register addresses -/

/-- An address of space 0 is reserved or names one of the twelve registers (spec/30_encoding.md R92). -/
theorem reservedRegister_or_register (a : Addr) : reservedRegister a = true ∨ ∃ k : Fin 12, a = BitVec.ofNat 16 k := by
  by_cases h : a.toNat < 12
  · exact .inr ⟨⟨a.toNat, h⟩, by simp⟩
  · exact .inl (decide_eq_true (by omega))

theorem ne_of_reservedRegister {a k : Addr} (h : reservedRegister a = true) (hk : reservedRegister k = false) :
    a ≠ k := by
  rintro rfl
  exact absurd (h.symm.trans hk) (by decide)

theorem exists_toNat_of_reservedRegister {a : Addr} (h : reservedRegister a = true) : ∃ n, a.toNat = n + 12 :=
  ⟨a.toNat - 12, (Nat.sub_add_cancel (of_decide_eq_true h)).symm⟩

theorem decodeRegWrite_of_reserved {a : Addr} (h : reservedRegister a = true) (d : Byte) :
    decodeRegWrite a d = .wrRsvd a d := by
  obtain ⟨n, hn⟩ := exists_toNat_of_reservedRegister h
  rw [decodeRegWrite, hn]
  rfl

theorem decodeRegRead_of_reserved {a : Addr} (h : reservedRegister a = true) : decodeRegRead a = .rdRsvd a := by
  obtain ⟨n, hn⟩ := exists_toNat_of_reservedRegister h
  rw [decodeRegRead, hn]
  rfl

/-! ## The words of the encoder -/

theorem decode_hbWord_write (sel : BitVec 2) (a : Addr) (d : Byte) :
    decode (.hb (hbWord 0 1 sel a d)) = .ok (decodeWrite sel a d) := by
  simp [decode, decodeHb]

theorem decode_hbWord_read (sel : BitVec 2) (a : Addr) (d : Byte) :
    decode (.hb (hbWord 1 0 sel a d)) = .ok (decodeRead sel a) := by
  simp [decode, decodeHb]

/-! ## Masks -/

theorem hbWord_ext_iff {v w : HbWord} :
    v = w ↔ strobesOf v = strobesOf w ∧ selOf v = selOf w ∧ addrOf v = addrOf w ∧ dataOf v = dataOf w := by
  refine ⟨fun h => h ▸ ⟨rfl, rfl, rfl, rfl⟩, fun ⟨hstrobes, hsel, haddr, hdata⟩ => ?_⟩
  rw [← hbWord_of_fields v, ← hbWord_of_fields w, hstrobes, hsel, haddr, hdata]

/-- Masking works field by field. -/
theorem and_eq_iff_fields (w mask pattern : HbWord) :
    w &&& mask = pattern ↔
      strobesOf w &&& strobesOf mask = strobesOf pattern ∧ selOf w &&& selOf mask = selOf pattern ∧
      addrOf w &&& addrOf mask = addrOf pattern ∧ dataOf w &&& dataOf mask = dataOf pattern := by
  simp only [hbWord_ext_iff, strobesOf, selOf, addrOf, dataOf, BitVec.extractLsb'_and]

/-- The mask of NOP and BOTH compares the strobes. -/
theorem and_strobesMask_eq_iff (w pattern : HbWord) :
    w &&& 0xC000000 = pattern ↔
      strobesOf w = strobesOf pattern ∧ selOf pattern = 0 ∧ addrOf pattern = 0 ∧ dataOf pattern = 0 := by
  have hstrobes : strobesOf w &&& strobesOf 0xC000000 = strobesOf w := BitVec.and_allOnes
  have hsel : selOf w &&& selOf 0xC000000 = 0 := BitVec.and_zero
  have haddr : addrOf w &&& addrOf 0xC000000 = 0 := BitVec.and_zero
  have hdata : dataOf w &&& dataOf 0xC000000 = 0 := BitVec.and_zero
  rw [and_eq_iff_fields, hstrobes, hsel, haddr, hdata]
  simp only [eq_comm (a := (0 : BitVec _))]

/-- The mask of the memory rows, of the reserved forms and of the catch-alls compares the strobes and `h_sel`. -/
theorem and_spaceMask_eq_iff (w pattern : HbWord) :
    w &&& 0xF000000 = pattern ↔
      strobesOf w = strobesOf pattern ∧ selOf w = selOf pattern ∧ addrOf pattern = 0 ∧ dataOf pattern = 0 := by
  have hstrobes : strobesOf w &&& strobesOf 0xF000000 = strobesOf w := BitVec.and_allOnes
  have hsel : selOf w &&& selOf 0xF000000 = selOf w := BitVec.and_allOnes
  have haddr : addrOf w &&& addrOf 0xF000000 = 0 := BitVec.and_zero
  have hdata : dataOf w &&& dataOf 0xF000000 = 0 := BitVec.and_zero
  rw [and_eq_iff_fields, hstrobes, hsel, haddr, hdata]
  simp only [eq_comm (a := (0 : BitVec _))]

/-- The mask of the register rows compares everything but the write data. -/
theorem and_registerMask_eq_iff (w pattern : HbWord) :
    w &&& 0xFFFFF00 = pattern ↔
      strobesOf w = strobesOf pattern ∧ selOf w = selOf pattern ∧ addrOf w = addrOf pattern ∧ dataOf pattern = 0 := by
  have hstrobes : strobesOf w &&& strobesOf 0xFFFFF00 = strobesOf w := BitVec.and_allOnes
  have hsel : selOf w &&& selOf 0xFFFFF00 = selOf w := BitVec.and_allOnes
  have haddr : addrOf w &&& addrOf 0xFFFFF00 = addrOf w := BitVec.and_allOnes
  have hdata : dataOf w &&& dataOf 0xFFFFF00 = 0 := BitVec.and_zero
  rw [and_eq_iff_fields, hstrobes, hsel, haddr, hdata]
  simp only [eq_comm (a := (0 : BitVec _))]

/-! ## The rows of the table -/

theorem firstRow_append (xs ys : List HbRow) (w : HbWord) :
    firstRow (xs ++ ys) w = (firstRow xs w).or (firstRow ys w) := by
  induction xs with
  | nil => rfl
  | cons row rest ih =>
    simp only [List.cons_append, firstRow, ih]
    split <;> rfl

/-- The register write rows dispatch on the address, as the decoder does; the catch-all takes what no register has. -/
theorem firstRow_hbRowsWrite (w : HbWord) :
    firstRow hbRowsWrite w =
      if strobesOf w = 1 ∧ selOf w = 0 then some (decodeRegWrite (addrOf w) (dataOf w)) else none := by
  simp only [hbRowsWrite, firstRow, and_registerMask_eq_iff, and_spaceMask_eq_iff]
  generalize strobesOf w = strobes, selOf w = sel, addrOf w = a, dataOf w = d
  simp only [strobesOf, selOf, addrOf, dataOf, BitVec.ofNat_eq_ofNat, BitVec.reduceExtractLsb', and_true]
  by_cases hspace : strobes = 1#2 ∧ sel = 0#2
  · obtain ⟨rfl, rfl⟩ := hspace
    obtain hres | ⟨k, rfl⟩ := reservedRegister_or_register a
    · rw [decodeRegWrite_of_reserved hres]
      simp [ne_of_reservedRegister hres, reservedRegister]
    · fin_cases k <;> rfl
  · simp only [← and_assoc, hspace, false_and, if_false]

/-- The register read rows, likewise. -/
theorem firstRow_hbRowsRead (w : HbWord) :
    firstRow hbRowsRead w = if strobesOf w = 2 ∧ selOf w = 0 then some (decodeRegRead (addrOf w)) else none := by
  simp only [hbRowsRead, firstRow, and_registerMask_eq_iff, and_spaceMask_eq_iff]
  generalize strobesOf w = strobes, selOf w = sel, addrOf w = a
  simp only [strobesOf, selOf, addrOf, dataOf, BitVec.ofNat_eq_ofNat, BitVec.reduceExtractLsb', and_true]
  by_cases hspace : strobes = 2#2 ∧ sel = 0#2
  · obtain ⟨rfl, rfl⟩ := hspace
    obtain hres | ⟨k, rfl⟩ := reservedRegister_or_register a
    · rw [decodeRegRead_of_reserved hres]
      simp [ne_of_reservedRegister hres, reservedRegister]
    · fin_cases k <;> rfl
  · simp only [← and_assoc, hspace, false_and, if_false]

end Sys2Proof

namespace Sys2Proof.Machine

/-! ## The selector -/

theorem State.selector_getLsbD_two (s : State) : s.selector.getLsbD 2 = decide (s.handler = .kernel) := by
  have hbit : s.selector.getLsbD 2 = s.handler.bit.getLsbD 0 := BitVec.getLsbD_append
  rw [hbit]
  cases s.handler <;> rfl

theorem State.selector_variant (s : State) : s.selector.extractLsb' 0 2 = s.cfg.variant.code :=
  BitVec.extractLsb'_append_eq_right

/-- With bit 2 clear the selector starts LINE.INACTIVE, whatever the variant (spec/30_encoding.md R93). -/
theorem decode_seq_inactive (x : BitVec 2) : decode (.seq ((0 : BitVec 1) ++ x)) = .ok .lineInactive := by
  have hbit : ((0 : BitVec 1) ++ x).extractLsb' 2 1 = 0 := BitVec.extractLsb'_append_eq_left
  exact congrArg Except.ok (if_pos hbit)

/-! ## The two halves of a cycle -/

/-- A commit keeps everything that the renderer owns (spec/60_exceptions.md R264). -/
theorem sameRenderer_commit (h r : State) : SameRenderer r (commit h r) := by simp [SameRenderer]

theorem step_of_rst {s : State} (hcfg : s.cfg.wellFormed = true) (hrst : s.pins.rst = 1) :
    step s = exec .reset s.popInput := by
  simp [step, cycleStep, clockCycle, decodePin, hcfg, hrst]

theorem step_of_not_rst {s : State} (hcfg : s.cfg.wellFormed = true) (hrst : s.pins.rst = 0) :
    step s = joinHalves (exec (decodeHb s.pins.hb) s.popInput) (rendererCycle s.popInput) := by
  simp [step, cycleStep, clockCycle, decodePin, hcfg, hrst]

/-- At the end of a period with no line in progress, the renderer's half is the tick alone. -/
theorem rendererCycle_of_idle_tick {s : State} (hr : s.rendering = false) (hlast : s.hcount.toNat + 1 = s.cfg.hCycles) :
    rendererCycle s = tick s.clearStrobes := by
  have hidle : kernelCycle s.clearStrobes = s.clearStrobes := if_neg (by simp [hr])
  have htick : s.clearStrobes.atTick = true := decide_eq_true hlast
  unfold rendererCycle
  rw [hidle, counterStep, if_pos htick, if_neg (by simp [hr])]

/-! ## The statements -/

/-- Settles O22, operation by operation: a write or a read is decoded by its space and address, and the catch-alls are
reached because a well-formed one has a reserved address. -/
theorem decodeEncodeRoundTrip : Obligations.DecodeEncodeRoundTrip := by
  intro i hi
  cases i with
  | reset | lineInactive | lineK6 | lineK8 | lineK8r | lineK8rs | nop | both => rfl
  | wrFontLo d | wrFontHi d | wrRamtLo d | wrRamtHi d | wrHScroll d | wrHMask d | wrVScroll d | wrHTrim d | wrVTrim d
  | wrFrameLo d | wrFrameHi d | wrConfig d => exact decode_hbWord_write 0 _ d
  | wrRsvd a d => exact (decode_hbWord_write 0 a d).trans (congrArg Except.ok (decodeRegWrite_of_reserved hi d))
  | rdFontLo | rdFontHi | rdRamtLo | rdRamtHi | rdHScroll | rdHMask | rdVScroll | rdHTrim | rdVTrim | rdFrameLo
  | rdFrameHi | rdConfig => exact decode_hbWord_read 0 _ 0
  | rdRsvd a => exact (decode_hbWord_read 0 a 0).trans (congrArg Except.ok (decodeRegRead_of_reserved hi))
  | wrs a d | wrt a d => exact decode_hbWord_write _ a d
  | rds a | rdt a => exact decode_hbWord_read _ a 0
  | wrSel3 => exact decode_hbWord_write 3 0 0
  | rdSel3 => exact decode_hbWord_read 3 0 0

/-- Settles O23: each row compares whole fields, so the table is read by strobes and `h_sel`, and within space 0 by the
address. -/
theorem decoderFollowsOrderedTable : Obligations.DecoderFollowsOrderedTable := by
  intro w
  have hfour : ∀ b : BitVec 2, b = 0 ∨ b = 1 ∨ b = 2 ∨ b = 3 := by decide
  simp only [hbTable, firstRow_append, firstRow_hbRowsWrite, firstRow_hbRowsRead, hbRowsIdle, hbRowsOther, firstRow,
    and_strobesMask_eq_iff, and_spaceMask_eq_iff, decodeHb, decodeWrite, decodeRead]
  generalize strobesOf w = strobes, selOf w = sel
  obtain rfl | rfl | rfl | rfl := hfour strobes
  · rfl
  · obtain rfl | rfl | rfl | rfl := hfour sel <;> rfl
  · obtain rfl | rfl | rfl | rfl := hfour sel <;> rfl
  · rfl

/-- Settles O26: an operation of format HB commits what the host owns over the state it found. -/
theorem everyHostWordCompletes : Obligations.EveryHostWordCompletes := by
  intro w s
  refine decodeHb_cases (fun op => op.wellFormed = true ∧ ∃ t, exec op s = .next t ∧ SameRenderer s t ∧
    t.cfg = s.cfg ∧ t.inputs = s.inputs) w fun op hop hwf => ⟨hwf, ?_⟩
  obtain ⟨t, hexec, hcommit⟩ := exec_hb_next op hop s
  refine ⟨t, hexec, ?_⟩
  rw [hcommit]
  exact ⟨sameRenderer_commit t s, rfl, rfl⟩

/-- Settles O24: the two fields of the selector in every state, and what each value of it starts. -/
theorem selectorNamesTheLineOperation : Obligations.SelectorNamesTheLineOperation := by
  refine ⟨fun s => ⟨s.selector_getLsbD_two, ?_⟩, decode_seq_inactive, rfl, rfl, rfl, rfl, fun v => ?_⟩
  · obtain ⟨hcode, -⟩ := configByte_fields s.cfg
    exact s.selector_variant.trans hcode.symm
  · cases v <;> rfl

/-- Settles O25: the decoder evaluates each word. -/
theorem exampleWordsDecode : Obligations.ExampleWordsDecode :=
  ⟨rfl, rfl, rfl, rfl, rfl, rfl, rfl, rfl, rfl, rfl, rfl⟩

/-- Settles O27: the host's half always answers, so the step is the commit of both halves or the renderer's refusal; the
tick is the operation of the selector by definition. -/
theorem stepRunsTheDecodedOperation : Obligations.StepRunsTheDecodedOperation := by
  intro s hcfg
  refine ⟨step_of_rst hcfg, fun i hrst hi => ?_, fun i hr hlast hi => ?_⟩
  · obtain rfl := Except.ok.inj hi
    obtain ⟨host, hhost⟩ := host_half_next s
    refine ⟨host, hhost, fun rend hrend => ?_, fun q hrefused => ?_⟩
    · rw [step_of_not_rst hcfg hrst, hhost, hrend]
      rfl
    · rw [step_of_not_rst hcfg hrst, hhost, hrefused]
      rfl
  · obtain rfl := Except.ok.inj hi
    exact rendererCycle_of_idle_tick hr hlast

end Sys2Proof.Machine
end

section
/-! # Proofs of the statements on the scanline timer and `sync` (spec/40_scanline_timer_sync.md)

The counter, the pulse width and the slots on `video`. The facts come first, in the order of the definitions they speak
of: the slots of a line, the outputs, and a cycle with `rst` = 0. -/

namespace Sys2Proof

/-! ## The slots of a line -/

/-- The cycle lies in the slot of pixel `k` of column `col` on a line that starts in cycle `x0`
(spec/40_scanline_timer_sync.md R125). -/
def Cfg.InSlot (c : Cfg) (x0 : Int) (cycle col k : Nat) : Prop :=
  col < c.fetchCols ∧ k < c.ppt ∧ ∃ j < c.cpp, (cycle : Int) = x0 + ((col * c.ppt + k) * c.cpp + j : Nat)

theorem Cfg.ppt_pos (c : Cfg) : 0 < c.ppt := by
  unfold Cfg.ppt
  split <;> decide

section
variable {c : Cfg} {x0 : Int} {cycle col k : Nat}

theorem Cfg.InSlot.slot_lt (h : c.InSlot x0 cycle col k) : col * c.ppt + k < c.slots := by
  obtain ⟨hcol, hk, -⟩ := h
  calc col * c.ppt + k < (col + 1) * c.ppt := by rw [Nat.succ_mul]; omega
    _ ≤ c.slots := Nat.mul_le_mul_right _ hcol

/-- A slot lies between the start and the end of its line. -/
theorem Cfg.InSlot.inside (h : c.InSlot x0 cycle col k) : x0 ≤ cycle ∧ (cycle : Int) < x0 + c.slots * c.cpp := by
  have hslot := h.slot_lt
  obtain ⟨-, -, j, hj, hcycle⟩ := h
  have hlt : (col * c.ppt + k) * c.cpp + j < c.slots * c.cpp :=
    calc (col * c.ppt + k) * c.cpp + j < (col * c.ppt + k + 1) * c.cpp := by rw [Nat.succ_mul]; omega
      _ ≤ c.slots * c.cpp := Nat.mul_le_mul_right _ hslot
  have hlt' := Int.ofNat_lt.2 hlt
  rw [Nat.cast_mul c.slots] at hlt'
  omega

/-- The number of the slot, read from the cycle. -/
theorem Cfg.InSlot.slot_eq (h : c.InSlot x0 cycle col k) : (cycle - x0).toNat / c.cpp = col * c.ppt + k := by
  obtain ⟨-, -, j, hj, hcycle⟩ := h
  rw [show (cycle - x0).toNat = (col * c.ppt + k) * c.cpp + j by omega]
  exact Nat.div_eq_of_lt_le (by omega) (by rw [Nat.succ_mul]; omega)

theorem Cfg.InSlot.column_eq (h : c.InSlot x0 cycle col k) : (col * c.ppt + k) / c.ppt = col := by
  obtain ⟨-, hk, -⟩ := h
  exact Nat.div_eq_of_lt_le (by omega) (by rw [Nat.succ_mul]; omega)

theorem Cfg.InSlot.pixel_eq (h : c.InSlot x0 cycle col k) : (col * c.ppt + k) % c.ppt = k := by
  obtain ⟨-, hk, -⟩ := h
  rw [Nat.mul_add_mod', Nat.mod_eq_of_lt hk]

/-- A slot lies in the cycles of its column, from `g(c)` on (spec/42_pixel_kernels.md R166). -/
theorem Cfg.InSlot.column (h : c.InSlot x0 cycle col k) :
    x0 + col * c.colCycles ≤ cycle ∧ (cycle : Int) < x0 + col * c.colCycles + c.colCycles := by
  obtain ⟨-, hk, j, hj, hcycle⟩ := h
  have hlt : k * c.cpp + j < c.colCycles :=
    calc k * c.cpp + j < (k + 1) * c.cpp := by rw [Nat.succ_mul]; omega
      _ ≤ c.colCycles := Nat.mul_le_mul_right _ hk
  have hsplit : (col * c.ppt + k) * c.cpp + j = col * c.colCycles + (k * c.cpp + j) := by
    unfold Cfg.colCycles
    ring
  rw [hsplit] at hcycle
  zify at hlt
  push_cast at hcycle
  omega

/-- Every cycle of a line lies in a slot. -/
theorem Cfg.exists_inSlot (hstart : x0 ≤ cycle) (hend : (cycle : Int) < x0 + c.slots * c.cpp) :
    ∃ col k, c.InSlot x0 cycle col k := by
  obtain ⟨d, hd⟩ : ∃ d : Nat, (cycle : Int) = x0 + d := ⟨(cycle - x0).toNat, by omega⟩
  have hlt : d < c.slots * c.cpp := by
    zify
    omega
  have hcpp : 0 < c.cpp := Nat.pos_of_mul_pos_left (Nat.zero_lt_of_lt hlt)
  have hslot : d / c.cpp < c.fetchCols * c.ppt := Nat.div_lt_of_lt_mul (by rwa [Nat.mul_comm])
  refine ⟨d / c.cpp / c.ppt, d / c.cpp % c.ppt, Nat.div_lt_of_lt_mul (by rwa [Nat.mul_comm]),
    Nat.mod_lt _ c.ppt_pos, d % c.cpp, Nat.mod_lt _ hcpp, ?_⟩
  rw [Nat.div_add_mod', Nat.div_add_mod', hd]

end

end Sys2Proof

namespace Sys2Proof.Machine

/-- Which pixels the scroll masks: those before the first visible one and those after the last (spec/42_pixel_kernels.md
R168). -/
theorem visible_eq_false_iff {c : Cfg} (hv : 1 ≤ c.visCols) (h : Scroll) (col k : Nat) :
    visible c h col k = false ↔
      c.variant = .k8rs ∧ (col = 0 ∧ k < h.toNat ∨ col = c.visCols ∧ h.toNat ≤ k) := by
  unfold visible Cfg.hasHScroll
  have hpos : c.visCols ≠ 0 := by omega
  by_cases hs : c.variant = .k8rs
  · by_cases hfirst : col = 0
    · simp [hs, hfirst, hpos.symm]
    by_cases hlast : col = c.visCols
    · simp [hs, hlast, hpos]
    · simp [hs, hfirst, hlast]
  · simp [hs]

/-! ## The outputs -/

theorem syncOut_eq_false_iff (s : State) :
    syncOut s = false ↔ s.hcount.toNat < match s.swActive with
      | .h => s.cfg.hsyncW
      | .v => s.cfg.vsyncW := by
  unfold syncOut
  cases s.swActive <;> simp

/-- In the slot of a pixel, `video` is that pixel of `cur` (spec/42_pixel_kernels.md R170). -/
theorem videoOut_of_inSlot {s : State} {col k : Nat} (hr : s.rendering = true)
    (h : s.cfg.InSlot s.x0 s.hcount.toNat col k) :
    videoOut s = (visible s.cfg s.lh col k && pixelBit s.cfg s.cur k) := by
  unfold videoOut State.slotValue
  rw [hr, h.slot_eq, h.column_eq, h.pixel_eq, decide_eq_true (show _ ∧ _ < s.xEnd from h.inside), Bool.true_and,
    Bool.true_and]

/-- With no line in progress, before its first slot and after its last, `video` is 0
(spec/40_scanline_timer_sync.md R125). -/
theorem videoOut_of_outside {s : State}
    (h : s.rendering = false ∨ (s.hcount.toNat : Int) < s.x0 ∨ s.xEnd ≤ s.hcount.toNat) : videoOut s = false := by
  have hout : (s.rendering && decide (s.x0 ≤ s.hcount.toNat ∧ (s.hcount.toNat : Int) < s.xEnd)) = false := by
    obtain h | h | h := h
    · rw [h, Bool.false_and]
    all_goals rw [decide_eq_false (by omega), Bool.and_false]
  rw [videoOut, hout, Bool.false_and]

/-! ## A cycle with `rst` = 0 -/

/-- What the renderer's half of a cycle leaves that is not the last of its period. -/
def State.countOn (s : State) : State := { kernelCycle s.popInput.clearStrobes with hcount := s.hcount + 1 }

/-- The counter and the two pulse widths after a tick (spec/40_scanline_timer_sync.md R121, R122). -/
theorem tick_timer {s t : State} (h : tick s = .next t) :
    t.hcount = 0 ∧ t.swActive = s.swPending ∧
    t.swPending =
      if s.handler = .inactive then
        if (s.lineNumber + 1).toNat = s.cfg.linesPerFrame then .v
        else if (s.lineNumber + 1).toNat = s.cfg.vsyncEnd then .h else s.swPending
      else s.swPending := by
  rw [tick_eq] at h
  split at h
  next hh =>
    rw [if_pos hh]
    obtain ⟨hw, -, rfl⟩ | ⟨hw, hv, rfl⟩ | ⟨hw, hv, -, rfl⟩ | ⟨hw, hv, -, rfl⟩ := execLineInactive_next _ t h
    · exact ⟨rfl, rfl, (if_pos (of_decide_eq_true hw)).symm⟩
    · rw [if_neg (of_decide_eq_false hw), if_pos (of_decide_eq_true hv)]
      exact ⟨rfl, rfl, rfl⟩
    all_goals
      rw [if_neg (of_decide_eq_false hw), if_neg (of_decide_eq_false hv)]
      exact ⟨rfl, rfl, rfl⟩
  next hh =>
    rw [if_neg hh]
    obtain ⟨-, rfl⟩ := (kBegin_next_iff _ _ t).1 h
    exact ⟨rfl, rfl, rfl⟩

/-- A step with `rst` = 0 is the tick, which finds `handler` as the cycle does, or goes on in its period. -/
theorem step_tick_or_countOn {s t : State} (h0 : s.pins.rst = 0) (h : step s = .next t) :
    (s.hcount.toNat + 1 = s.cfg.hCycles ∧ (kernelCycle s.popInput.clearStrobes).handler = s.handler ∧
      ∃ host rend, tick (kernelCycle s.popInput.clearStrobes) = .next rend ∧ t = commit host rend) ∨
    (s.hcount.toNat + 1 ≠ s.cfg.hCycles ∧ ∃ host, t = commit host s.countOn) := by
  obtain ⟨-, hfits, host, rend, -, rfl, hcount⟩ := step_parts s t h0 h
  obtain ⟨khcount, kcfg, -⟩ := kernelCycle_frame s.popInput.clearStrobes
  obtain ⟨hlast, htick⟩ | ⟨hlast, rfl⟩ := counterStep_next _ _ hcount
  · have hend : s.hcount.toNat + 1 = s.cfg.hCycles := by simpa [State.atTick, khcount, kcfg] using hlast
    exact .inl ⟨hend, kernelCycle_handler_of_lastCycle (s := s.popInput.clearStrobes) hfits hend, host, rend, htick, rfl⟩
  · have hnot : s.hcount.toNat + 1 ≠ s.cfg.hCycles := by simpa [State.atTick, khcount, kcfg] using hlast
    exact .inr ⟨hnot, host, by rw [khcount]; rfl⟩

/-! ## The statements -/

/-- Settles O37, by the two widths. -/
theorem syncPulseWidth : Obligations.SyncPulseWidth := by
  intro s
  constructor <;> intro hw <;> rw [syncOut_eq_false_iff, hw]

/-- Settles O29: the tick is the only event that does not count on. -/
theorem counterStepsAndWraps : Obligations.CounterStepsAndWraps := by
  intro s t h0 hstep
  obtain ⟨hlast, -, host, rend, htick, rfl⟩ | ⟨hnot, host, rfl⟩ := step_tick_or_countOn h0 hstep
  · rw [if_pos hlast]
    exact (tick_timer htick).1
  · rw [if_neg hnot]
    rfl

/-- Settles O30: a line in progress writes neither width, and the tick moves them by its line operation. -/
theorem pulseWidthIsDoubleBuffered : Obligations.PulseWidthIsDoubleBuffered := by
  intro s t h0 hstep
  obtain ⟨-, kcfg, kline, kpending, kactive, -⟩ := kernelCycle_frame s.popInput.clearStrobes
  obtain ⟨hlast, khandler, host, rend, htick, rfl⟩ | ⟨hnot, host, rfl⟩ := step_tick_or_countOn h0 hstep
  · obtain ⟨-, hactive, hpending⟩ := tick_timer htick
    rw [khandler, kcfg, kline, kpending] at hpending
    refine ⟨?_, ?_⟩
    · rw [if_pos hlast]
      exact hactive.trans kpending
    · simpa [hlast] using hpending
  · refine ⟨?_, ?_⟩
    · rw [if_neg hnot]
      exact kactive
    · rw [if_neg (hnot ·.1)]
      exact kpending

/-- Settles O38: the cycle lies in the slot of pixel `k` of column `c`, which shows the pixel unless the scroll masks
it. -/
theorem videoShowsTheSlots : Obligations.VideoShowsTheSlots := by
  intro s hvis
  refine ⟨fun c k j hr hc hk hj hcycle => ?_, fun hout => videoOut_of_outside hout⟩
  have hslot : s.cfg.InSlot s.x0 s.hcount.toNat c k := by
    refine ⟨hc, hk, j, hj, ?_⟩
    rw [hcycle, State.x0, Cfg.lineStart]
    push_cast
    ring
  rw [videoOut_of_inSlot hr hslot]
  split
  next hmasked => rw [(visible_eq_false_iff hvis s.lh c k).2 hmasked, Bool.false_and]
  next hshown =>
    rw [← visible_eq_false_iff hvis, Bool.not_eq_false] at hshown
    rw [hshown, Bool.true_and, pixelBit]

end Sys2Proof.Machine
end

section
/-! # Proof of the statement on the record of a period (spec/40_scanline_timer_sync.md R130)

A period under any host. The facts come first, in the order of the definitions they speak of: what a cycle of a kernel
operation leaves, what a cycle within a period leaves, the record, and the state in each cycle of a period. -/

namespace Sys2Proof.Machine

/-! ## A cycle of a kernel operation -/

/-- The controls latched at K.begin hold for the whole line (spec/42_pixel_kernels.md R161). -/
theorem kernelCycle_keeps_latches (s : State) :
    (kernelCycle s).lh = s.lh ∧ (kernelCycle s).ltrim = s.ltrim ∧ (kernelCycle s).lfont = s.lfont ∧
      (kernelCycle s).lram = s.lram := by
  obtain ⟨-, h⟩ | ⟨-, col, -, h⟩ | ⟨-, -, -, h⟩ | ⟨-, -, -, -, h⟩ | ⟨-, -, -, -, h⟩ := kernelCycle_cases s
  · simp [h]
  · simp [h]
  · simp [h]
  · simp [h, State.kEnd_eq]
  · simp [h]

/-- Only a bitmap fetch writes `cur` (spec/42_pixel_kernels.md R166). -/
theorem kernelCycle_cur_of_not_due {s : State} (h1 : s.columnDue 1 = none) : (kernelCycle s).cur = s.cur := by
  obtain ⟨-, h⟩ | ⟨-, col, -, h⟩ | ⟨-, -, ⟨col, hdue⟩, -⟩ | ⟨-, -, -, -, h⟩ | ⟨-, -, -, -, h⟩ := kernelCycle_cases s
  · rw [h]
  · rw [h, State.fetchCell_cur]
  · exact nomatch h1.symm.trans hdue
  · rw [h, State.kEnd_eq]
  · rw [h]

/-- K.end, and nothing else within a line, ends it and raises the strobes (spec/42_pixel_kernels.md R172). -/
theorem kernelCycle_completion {s : State} (hw : s.cfg.wellFormed = true) :
    (kernelCycle s).rendering = (s.rendering && !s.kEndDue) ∧
    (kernelCycle s).irqQ = (s.irqQ || s.rendering && s.kEndDue) ∧
    (kernelCycle s).eodQ = (s.eodQ || s.rendering && s.kEndDue && s.atLastLine) := by
  by_cases hk : s.rendering = true ∧ s.kEndDue = true
  · have ⟨hr, he⟩ := hk
    rw [kernelCycle_of_kEndDue s hw hr he, State.kEnd_eq]
    cases s.atLastLine <;> simp [hr, he]
  · obtain ⟨-, -, -, -, -, -, -, hrest⟩ := kernelCycle_frame s
    obtain ⟨-, -, hirq, heod, hrendering, -⟩ := hrest hk
    have hnone : (s.rendering && s.kEndDue) = false := by simpa using hk
    rw [hirq, heod, hrendering, hnone, Bool.false_and, Bool.or_false, Bool.or_false]
    refine ⟨?_, rfl, rfl⟩
    cases hr : s.rendering with
    | false => rfl
    | true =>
      rw [hr, Bool.true_and] at hnone
      rw [hnone]
      rfl

/-! ## A cycle within a period -/

/-- Without reset, a cycle that is not the last of its period completes, whatever the host does. -/
theorem Inv.step_countOn {s : State} (i : Inv s) (h0 : s.pins.rst = 0) (ht : s.hcount.toNat + 1 ≠ s.cfg.hCycles) :
    ∃ host, step s = .next (commit host s.countOn) := by
  obtain ⟨host, -, hstep⟩ := step_of_not_tick s i.cfgOk h0 (fun hr => (i.busyFits hr).1) ht
  exact ⟨host, hstep⟩

/-- The registers that hold for the whole of a period: those that only a tick writes, and the configuration. -/
def SamePeriod (s t : State) : Prop :=
  t.cfg = s.cfg ∧ t.lineNumber = s.lineNumber ∧ t.swActive = s.swActive ∧ t.vTrimL = s.vTrimL ∧
  t.lh = s.lh ∧ t.ltrim = s.ltrim ∧ t.lfont = s.lfont ∧ t.lram = s.lram

theorem SamePeriod.trans {s t u : State} (h : SamePeriod s t) (h' : SamePeriod t u) : SamePeriod s u := by
  obtain ⟨h1, h2, h3, h4, h5, h6, h7, h8⟩ := h
  obtain ⟨k1, k2, k3, k4, k5, k6, k7, k8⟩ := h'
  exact ⟨k1.trans h1, k2.trans h2, k3.trans h3, k4.trans h4, k5.trans h5, k6.trans h6, k7.trans h7, k8.trans h8⟩

section
variable {s t : State} (h : SamePeriod s t)
include h

theorem SamePeriod.x0_eq : t.x0 = s.x0 := by
  obtain ⟨hcfg, -, -, -, hlh, hltrim, -⟩ := h
  rw [State.x0, State.x0, hcfg, hlh, hltrim]

theorem SamePeriod.xEnd_eq : t.xEnd = s.xEnd := by
  obtain ⟨hcfg, -, -, -, hlh, hltrim, -⟩ := h
  rw [State.xEnd, State.xEnd, hcfg, hlh, hltrim]

theorem SamePeriod.atLastLine_eq : t.atLastLine = s.atLastLine := by
  obtain ⟨hcfg, hline, -, htrim, -⟩ := h
  rw [State.atLastLine, State.atLastLine, hline, State.aeEff_congr hcfg htrim]

end

theorem samePeriod_countOn (s : State) : SamePeriod s s.countOn := by
  obtain ⟨-, kcfg, kline, -, kactive, ktrim, -⟩ := kernelCycle_frame s.popInput.clearStrobes
  exact ⟨kcfg, kline, kactive, ktrim, kernelCycle_keeps_latches s.popInput.clearStrobes⟩

/-- The line ends and the strobes rise with K.end only; a strobe of the cycle before has fallen. -/
theorem countOn_completion {s : State} (hw : s.cfg.wellFormed = true) :
    s.countOn.rendering = (s.rendering && !s.kEndDue) ∧ s.countOn.irqQ = (s.rendering && s.kEndDue) ∧
      s.countOn.eodQ = (s.rendering && s.kEndDue && s.atLastLine) := by
  obtain ⟨hrendering, hirq, heod⟩ := kernelCycle_completion (s := s.popInput.clearStrobes) hw
  exact ⟨hrendering, hirq.trans (Bool.false_or _), heod.trans (Bool.false_or _)⟩

/-- Until K.end the row registers stand still. -/
theorem countOn_rows {s : State} (h : s.rendering = true → s.kEndDue = false) :
    s.countOn.tileRowOffset = s.tileRowOffset ∧ s.countOn.rowPtr = s.rowPtr := by
  obtain ⟨-, -, -, -, -, -, -, hrest⟩ := kernelCycle_frame s.popInput.clearStrobes
  obtain ⟨-, -, -, -, -, hrows⟩ := hrest fun ⟨hr, hk⟩ => nomatch (h hr).symm.trans hk
  exact hrows

/-- The cell of a column, as SCREEN stands in its fetch cycle. -/
theorem countOn_cell {s : State} {col : Nat} (hr : s.rendering = true) (hd : s.columnDue 2 = some col) :
    s.countOn.cell = s.memRead .screen (s.scrAddr col) (Config.rendererUnpopulated s.rendDraws) :=
  congrArg State.cell (kernelCycle_of_cellDue s.popInput.clearStrobes col hr hd)

/-- The bitmap byte of a column, as its tile store stands in its fetch cycle. -/
theorem countOn_cur {s : State} {col : Nat} (hw : s.cfg.wellFormed = true) (hr : s.rendering = true)
    (hd : s.columnDue 1 = some col) :
    s.countOn.cur =
      s.memRead (bankOf s.cfg s.cell) (s.cellAddr s.cell) (Config.rendererUnpopulated s.rendDraws) :=
  congrArg State.cur (kernelCycle_of_tileDue s.popInput.clearStrobes col hw hr hd)

theorem countOn_cur_of_not_due {s : State} (hd : s.columnDue 1 = none) : s.countOn.cur = s.cur :=
  kernelCycle_cur_of_not_due (s := s.popInput.clearStrobes) hd

/-! ## The record -/

theorem State.picture_length (s : State) : s.picture.length = s.cfg.slots := by simp [State.picture]

/-- In the slot of a pixel of a rendered line the record shows that pixel of the line's picture. -/
theorem State.lineRec_video_of_inSlot {s : State} {cycle col k : Nat} (hr : s.rendering = true)
    (h : s.cfg.InSlot s.x0 cycle col k) :
    s.lineRec.video s.cfg cycle = (visible s.cfg s.lh col k && pixelBit s.cfg (s.pictureByte col) k) := by
  have hpix : s.lineRec.pix = some (s.x0, s.picture) := if_pos hr
  have hslot : s.picture.getD (col * s.cfg.ppt + k) false = s.pictureSlot (col * s.cfg.ppt + k) := by
    simp [State.picture, List.getD, h.slot_lt]
  simp only [LineRec.video, hpix, State.picture_length]
  rw [if_pos h.inside, h.slot_eq, hslot, State.pictureSlot, h.column_eq, h.pixel_eq]

/-- With no line in progress, before its first slot and after its last, the record shows 0. -/
theorem State.lineRec_video_of_outside {s : State} {cycle : Nat}
    (h : s.rendering = false ∨ (cycle : Int) < s.x0 ∨ s.xEnd ≤ cycle) : s.lineRec.video s.cfg cycle = false := by
  cases hr : s.rendering with
  | false =>
    have hpix : s.lineRec.pix = none := if_neg (by simp [hr])
    simp only [LineRec.video, hpix]
  | true =>
    have hpix : s.lineRec.pix = some (s.x0, s.picture) := if_pos hr
    have hend : s.xEnd = s.x0 + s.cfg.slots * s.cfg.cpp := rfl
    simp only [LineRec.video, hpix, State.picture_length]
    refine if_neg ?_
    simp [hr] at h
    omega

/-- `sync` follows the width and the counter alone. -/
theorem syncOut_eq_lineRec_sync {s t : State} (hcfg : t.cfg = s.cfg) (hwidth : t.swActive = s.swActive) :
    syncOut t = s.lineRec.sync s.cfg t.hcount.toNat := by
  unfold syncOut LineRec.sync State.lineRec
  rw [hcfg, hwidth]
  cases s.swActive <;> rfl

/-! ## The state in each cycle of a period -/

/-- `t` is the state in cycle `n` of the period whose cycle 0 starts in `s`: what the outputs and the fetches of that
cycle read, each as the start of the period, or the fetches before, have set it. -/
structure InPeriod (s : State) (n : Nat) (t : State) : Prop where
  reached : runCycles n s = .next t
  inv : Inv t
  hcount : t.hcount.toNat = n
  inputs : t.inputs = s.inputs.drop n
  same : SamePeriod s t
  rendering : t.rendering = true ↔ s.rendering = true ∧ (n : Int) < s.xEnd
  rows : t.rendering = true → t.tileRowOffset = s.tileRowOffset ∧ t.rowPtr = s.rowPtr
  cell : s.rendering = true → ∀ col, col < s.cfg.fetchCols → (n : Int) + 1 = s.x0 + col * s.cfg.colCycles →
    t.cell = s.pictureCell col
  cur : s.rendering = true → ∀ col, col < s.cfg.fetchCols → s.x0 + col * s.cfg.colCycles ≤ n →
    (n : Int) < s.x0 + col * s.cfg.colCycles + s.cfg.colCycles → t.cur = s.pictureByte col
  irq : t.irqQ = true ↔ if s.rendering then (n : Int) = s.xEnd else n = 0 ∧ s.irqQ = true
  eod : t.eodQ = true ↔ s.rendering = true ∧ s.atLastLine = true ∧ (n : Int) = s.xEnd

/-- Cycle 0: a line in progress has not begun to fetch, and no strobe but that of LINE.INACTIVE is up. -/
theorem InPeriod.start {s : State} (i : Inv s) (h0 : s.hcount = 0) : InPeriod s 0 s := by
  have hzero : s.hcount.toNat = 0 := by simp [h0]
  have hbusy : s.rendering = true → 2 ≤ s.x0 ∧ 0 < s.xEnd := fun hr => by
    obtain ⟨hfits, hend⟩ := i.busyFits hr
    obtain ⟨-, hstart, -⟩ := of_decide_eq_true hfits
    exact ⟨hstart, by omega⟩
  obtain ⟨heod, hirq⟩ := i.strobes
  have hearly : ∀ col : Nat, (0 : Int) ≤ col * s.cfg.colCycles := fun col => by positivity
  exact {
    reached := rfl
    inv := i
    hcount := hzero
    inputs := rfl
    same := ⟨rfl, rfl, rfl, rfl, rfl, rfl, rfl, rfl⟩
    rendering := ⟨fun hr => ⟨hr, (hbusy hr).2⟩, (·.1)⟩
    rows := fun _ => ⟨rfl, rfl⟩
    cell := fun hr col _ hcycle => by
      have := hearly col
      have := hbusy hr
      omega
    cur := fun hr col _ hcycle _ => by
      have := hearly col
      have := hbusy hr
      omega
    irq := by
      cases hr : s.rendering with
      | false => simp
      | true =>
        have hend := (hbusy hr).2
        rw [if_pos rfl]
        exact iff_of_false (fun h => (nomatch hr.symm.trans (hirq h).1)) (by omega)
    eod := iff_of_false (fun h => absurd (heod h).2 (by omega)) fun ⟨hr, _, hend⟩ => by
      have := (hbusy hr).2
      omega }

section
variable {s t : State} {n : Nat} (p : InPeriod s n t)
include p

/-- The column that is due, on the schedule of the start of the period. -/
theorem InPeriod.columnDue_eq_some {lead col : Nat} (hcol : col < s.cfg.fetchCols)
    (h : (n : Int) + lead = s.x0 + col * s.cfg.colCycles) : t.columnDue lead = some col := by
  obtain ⟨hcfg, -⟩ := p.same
  rw [State.columnDue_eq_some_iff _ _ _ (t.cfg.colCycles_pos p.inv.cfgOk), hcfg, p.hcount, p.same.x0_eq]
  exact ⟨hcol, h⟩

/-- Within a column, its own bitmap byte is fetched and the next one's is not due before the last cycle. -/
theorem InPeriod.columnDue_one_eq_none {col : Nat} (hstart : s.x0 + col * s.cfg.colCycles ≤ n)
    (hend : (n : Int) + 1 < s.x0 + col * s.cfg.colCycles + s.cfg.colCycles) : t.columnDue 1 = none := by
  obtain ⟨hcfg, -⟩ := p.same
  rw [Option.eq_none_iff_forall_ne_some]
  intro other hdue
  rw [State.columnDue_eq_some_iff _ _ _ (t.cfg.colCycles_pos p.inv.cfgOk), hcfg, p.hcount, p.same.x0_eq] at hdue
  obtain ⟨-, hother⟩ := hdue
  have hpos : (0 : Int) ≤ s.cfg.colCycles := Int.natCast_nonneg _
  have hlow : (col : Int) < other := lt_of_mul_lt_mul_right (a := (s.cfg.colCycles : Int)) (by omega) hpos
  have hhigh : (other : Int) < col + 1 :=
    lt_of_mul_lt_mul_right (a := (s.cfg.colCycles : Int)) (by rw [add_mul]; omega) hpos
  omega

theorem InPeriod.kEndDue_iff : t.kEndDue = true ↔ (n : Int) + 1 = s.xEnd := by
  rw [State.kEndDue, p.hcount, p.same.xEnd_eq, decide_eq_true_iff]

/-- A fetch of a column falls in the line. -/
theorem InPeriod.rendering_of_lt_column (hr : s.rendering = true) {col : Nat} (hcol : col < s.cfg.fetchCols)
    (h : (n : Int) < s.x0 + col * s.cfg.colCycles + s.cfg.colCycles) : t.rendering = true := by
  have hend := s.column_le_xEnd col hcol
  exact p.rendering.2 ⟨hr, by omega⟩

/-- The cell fetch in cycle `g(c) - 2`, under whatever the host has written by then. -/
theorem InPeriod.countOn_cell_eq (hr : s.rendering = true) {col : Nat} (hcol : col < s.cfg.fetchCols)
    (hcycle : (n : Int) + 2 = s.x0 + col * s.cfg.colCycles) : t.countOn.cell = s.pictureCell col := by
  have hbusy := p.rendering_of_lt_column hr hcol (by omega)
  have hnow : s.cellCycle col = n := by
    unfold State.cellCycle
    omega
  obtain ⟨-, hptr⟩ := p.rows hbusy
  have haddr : t.scrAddr col = s.scrAddr col := by rw [State.scrAddr, State.scrAddr, hptr]
  rw [countOn_cell hbusy (p.columnDue_eq_some hcol hcycle), State.pictureCell, hnow,
    State.after_of_runCycles p.reached, haddr]

/-- The bitmap fetch in cycle `g(c) - 1`, of the cell that the cycle before has read. -/
theorem InPeriod.countOn_cur_eq (hr : s.rendering = true) {col : Nat} (hcol : col < s.cfg.fetchCols)
    (hcycle : (n : Int) + 1 = s.x0 + col * s.cfg.colCycles) : t.countOn.cur = s.pictureByte col := by
  have hbusy := p.rendering_of_lt_column hr hcol (by omega)
  have hnow : s.tileCycle col = n := by
    unfold State.tileCycle
    omega
  obtain ⟨htile, -⟩ := p.rows hbusy
  obtain ⟨hcfg, -, -, -, -, -, hfont, hram⟩ := p.same
  have haddr : ∀ b, t.cellAddr b = s.cellAddr b := fun b => by
    unfold State.cellAddr State.baseOf
    rw [hcfg, hfont, hram, htile]
  rw [countOn_cur p.inv.cfgOk hbusy (p.columnDue_eq_some hcol hcycle), State.pictureByte, hnow,
    State.after_of_runCycles p.reached, p.cell hr col hcol hcycle, haddr, hcfg]

/-- The next cycle of the period: `cell` and `cur` follow the fetch schedule, and K.end ends the line with its
strobes. -/
theorem InPeriod.succ (hrst : t.pins.rst = 0) (hn : n + 1 < s.cfg.hCycles) : ∃ u, InPeriod s (n + 1) u := by
  have ⟨hcfg, _⟩ := p.same
  have hnot : t.hcount.toNat + 1 ≠ t.cfg.hCycles := by
    rw [p.hcount, hcfg]
    omega
  obtain ⟨host, hstep⟩ := p.inv.step_countOn hrst hnot
  obtain ⟨hrendering, hirq, heod⟩ := countOn_completion p.inv.cfgOk
  have hbusy := p.rendering
  have hdue := p.kEndDue_iff
  exact ⟨commit host t.countOn, {
    reached := by
      rw [runCycles_succ, p.reached]
      exact hstep
    inv := step_keeps_inv p.inv hstep
    hcount := (p.inv.hcount_succ hnot).trans (by rw [p.hcount])
    inputs := by rw [step_inputs hstep, p.inputs, List.tail_drop]
    same := p.same.trans (samePeriod_countOn t)
    rendering := by
      rw [commit_rendering, hrendering, Bool.and_eq_true, hbusy, Bool.not_eq_true', ← Bool.not_eq_true, hdue]
      push_cast
      constructor
      · rintro ⟨⟨hr, hlt⟩, hne⟩
        exact ⟨hr, by omega⟩
      · rintro ⟨hr, hlt⟩
        exact ⟨⟨hr, by omega⟩, by omega⟩
    rows := fun hr => by
      rw [commit_rendering, hrendering, Bool.and_eq_true, Bool.not_eq_true'] at hr
      obtain ⟨hrt, hk⟩ := hr
      obtain ⟨htile, hptr⟩ := countOn_rows fun _ => hk
      obtain ⟨htile', hptr'⟩ := p.rows hrt
      exact ⟨htile.trans htile', hptr.trans hptr'⟩
    cell := fun hr col hcol hcycle => p.countOn_cell_eq hr hcol (by push_cast at hcycle; omega)
    cur := fun hr col hcol hstart hend => by
      push_cast at hstart hend
      by_cases hfirst : (n : Int) + 1 = s.x0 + col * s.cfg.colCycles
      · exact p.countOn_cur_eq hr hcol hfirst
      · calc t.countOn.cur = t.cur := countOn_cur_of_not_due (p.columnDue_one_eq_none (col := col) (by omega) hend)
          _ = s.pictureByte col := p.cur hr col hcol (by omega) (by omega)
    irq := by
      rw [commit_irqQ, hirq, Bool.and_eq_true, hbusy, hdue]
      push_cast
      cases hr : s.rendering with
      | false => simp
      | true =>
        simp only [if_true, true_and]
        omega
    eod := by
      rw [commit_eodQ, heod, Bool.and_eq_true, Bool.and_eq_true, hbusy, hdue, p.same.atLastLine_eq]
      push_cast
      constructor
      · rintro ⟨⟨⟨hr, -⟩, hend⟩, hl⟩
        exact ⟨hr, hl, hend⟩
      · rintro ⟨hr, hl, hend⟩
        exact ⟨⟨⟨hr, by omega⟩, hend⟩, hl⟩ }⟩

/-- Every cycle of the period shows the record on `video`. -/
theorem InPeriod.videoOut_eq : videoOut t = s.lineRec.video s.cfg n := by
  obtain ⟨hcfg, -, -, -, hlh, -⟩ := p.same
  by_cases hin : s.rendering = true ∧ s.x0 ≤ n ∧ (n : Int) < s.xEnd
  · obtain ⟨hr, hstart, hend⟩ := hin
    obtain ⟨col, k, hslot⟩ := Cfg.exists_inSlot hstart hend
    obtain ⟨hfrom, hto⟩ := hslot.column
    have hslot' : t.cfg.InSlot t.x0 t.hcount.toNat col k := by rwa [hcfg, p.same.x0_eq, p.hcount]
    rw [videoOut_of_inSlot (p.rendering.2 ⟨hr, hend⟩) hslot', State.lineRec_video_of_inSlot hr hslot, hcfg, hlh,
      p.cur hr col hslot.1 hfrom hto]
  · have hout : s.rendering = false ∨ (n : Int) < s.x0 ∨ s.xEnd ≤ n := by
      cases hr : s.rendering with
      | false => exact .inl rfl
      | true =>
        simp only [hr, true_and] at hin
        omega
    rw [State.lineRec_video_of_outside hout, videoOut_of_outside]
    rw [p.hcount, p.same.x0_eq, p.same.xEnd_eq]
    refine hout.imp_left fun hr => ?_
    rw [← Bool.not_eq_true, p.rendering, hr]
    simp

end

/-- The pins of a coming cycle: an input of the list, or an idle host. -/
theorem State.pins_rst_of_drop {s t : State} {n : Nat} (hinputs : t.inputs = s.inputs.drop n)
    (hhost : ∀ p ∈ s.inputs.take (n + 1), p.rst = 0) : t.pins.rst = 0 := by
  unfold State.pins
  rw [hinputs, List.headD_eq_head?_getD, List.head?_drop]
  cases hp : s.inputs[n]? with
  | none => rfl
  | some p => exact hhost p (by simp [List.take_add_one, hp])

/-- Whatever the host does without reset, VSG runs to every cycle of a period. -/
theorem Inv.exists_inPeriod {s : State} (i : Inv s) (h0 : s.hcount = 0) {n : Nat} (hn : n < s.cfg.hCycles)
    (hhost : ∀ p ∈ s.inputs.take n, p.rst = 0) : ∃ t, InPeriod s n t := by
  induction n with
  | zero => exact ⟨s, InPeriod.start i h0⟩
  | succ n ih =>
    obtain ⟨t, ht⟩ := ih (by omega) fun p hp => hhost p (List.take_subset_take_left _ (by omega) hp)
    exact ht.succ (State.pins_rst_of_drop ht.inputs hhost) hn

/-- With no reset before `x_end`, the record has `eod` on the last line of the active region. -/
theorem State.lineRec_eod_iff {s : State} {n : Nat} (hhost : ∀ p ∈ s.inputs.take n, p.rst = 0)
    (hn : (n : Int) = s.xEnd) : s.lineRec.eod = true ↔ s.rendering = true ∧ s.atLastLine = true := by
  have hall : (s.inputs.take s.xEnd.toNat).all (fun p => decide (p.rst = 0)) = true := by
    rw [show s.xEnd.toNat = n by omega, List.all_eq_true]
    exact fun p hp => decide_eq_true (hhost p hp)
  rw [State.lineRec, hall, Bool.and_true, Bool.and_eq_true]

/-! ## The statement -/

/-- Settles O51, by induction on the cycle: the state in each cycle of the period has what its outputs show. -/
theorem periodEmitsItsRecord : Obligations.PeriodEmitsItsRecord := by
  intro s n hinv h0 hn hhost
  obtain ⟨t, ht⟩ := hinv.exists_inPeriod h0 hn hhost
  have ⟨hcfg, hline, hwidth, _⟩ := ht.same
  have hsync := syncOut_eq_lineRec_sync hcfg hwidth
  rw [ht.hcount] at hsync
  refine ⟨t, ht.reached, ht.hcount, hline, hwidth, ht.videoOut_eq, hsync, ?_, ht.irq⟩
  rw [eodOut_eq, ht.eod, ← and_assoc]
  exact and_congr_left fun hend => (State.lineRec_eod_iff hhost hend).symm

end Sys2Proof.Machine
end

section
/-! # Proofs of the statements on the line state machine (spec/41_line_state_machine.md)

LINE.INACTIVE, the table of the regions, and a whole frame under any host. The facts come first, in the order of the
definitions they speak of: the pins of a cycle, the trim registers, the frame counter, and the place of a cycle in its
frame. -/

namespace Sys2Proof.Machine

/-! ## The inputs to come -/

section
variable {s : State} {P : Input → Prop} {n : Nat} (h : ∀ p ∈ s.inputs.take (n + 1), P p)
include h

/-- What holds of an idle host and of the next inputs holds of the pins of this cycle. -/
theorem State.pins_of_take (hidle : P Input.idle) : P s.pins := by
  unfold State.pins
  cases hi : s.inputs with
  | nil => exact hidle
  | cons p ps => exact h p (by simp [hi])

/-- The inputs of the cycles after a step are among those of the cycles from it on. -/
theorem forall_take_inputs_of_step {t : State} (hstep : step s = .next t) : ∀ p ∈ t.inputs.take n, P p := by
  intro p hp
  rw [step_inputs hstep] at hp
  cases hi : s.inputs with
  | nil => simp [hi] at hp
  | cons q qs =>
    rw [hi, List.tail_cons] at hp
    exact h p (by simp [hi, hp])

end

/-! ## The trim registers -/

/-- The bus word of these pins writes no trim outside the trim contract (spec/43_display_config_ops.md R217). -/
def Input.KeepsTrims (c : Cfg) (p : Input) : Prop :=
  ∀ d, (decode (.hb p.hb) = .ok (.wrHTrim d) → c.hTrimOk d = true) ∧
    (decode (.hb p.hb) = .ok (.wrVTrim d) → c.vTrimOk d = true)

/-- With no inputs left the host is idle, and a NOP writes no trim (log 3). -/
theorem idle_keepsTrims (c : Cfg) : Input.idle.KeepsTrims c := by
  have hnop : decode (.hb Input.idle.hb) = .ok .nop := rfl
  intro d
  simp [hnop]

/-- WR.H_TRIM and WR.V_TRIM are the only operations of format HB that write a trim register. -/
theorem exec_hb_trims {op : Instr} (hop : ∃ x, encode op = .hb x) {s t : State} (h : exec op s = .next t) :
    (t.hTrim = s.hTrim ∨ op = .wrHTrim t.hTrim) ∧ (t.vTrim = s.vTrim ∨ op = .wrVTrim t.vTrim) := by
  obtain ⟨x, hx⟩ := hop
  cases op with
  | reset | lineInactive | lineK6 | lineK8 | lineK8r | lineK8rs => exact nomatch hx
  | wrHTrim d =>
    obtain rfl := Host.Outcome.next.inj h
    exact ⟨.inr rfl, .inl rfl⟩
  | wrVTrim d =>
    obtain rfl := Host.Outcome.next.inj h
    exact ⟨.inl rfl, .inr rfl⟩
  | wrs a d | wrt a d =>
    obtain rfl := Host.Outcome.next.inj h
    rw [State.memWrite_eq]
    exact ⟨.inl rfl, .inl rfl⟩
  | _ =>
    obtain rfl := Host.Outcome.next.inj h
    exact ⟨.inl rfl, .inl rfl⟩

/-- Without reset, a step under a host that keeps the trim contract leaves trims that keep it. -/
theorem TrimsKept.of_step {s t : State} (h : TrimsKept s) (h0 : s.pins.rst = 0) (hp : s.pins.KeepsTrims s.cfg)
    (hstep : step s = .next t) : TrimsKept t := by
  have hcfg := configurationNeverChanges s t hstep
  obtain ⟨-, -, host, rend, hhost, rfl, -⟩ := step_parts s t h0 hstep
  obtain ⟨hh, hv⟩ := exec_hb_trims (encode_decodeHb s.pins.hb) hhost
  obtain ⟨hkept, vkept⟩ := h
  unfold TrimsKept
  rw [hcfg, commit_hTrim, commit_vTrim]
  constructor
  · obtain hsame | hop := hh
    · rw [hsame]
      exact hkept
    · exact (hp host.hTrim).1 (congrArg Except.ok hop)
  · obtain hsame | hop := hv
    · rw [hsame]
      exact vkept
    · exact (hp host.vTrim).2 (congrArg Except.ok hop)

/-- None of the reasons to refuse a step holds (spec/43_display_config_ops.md R217). -/
theorem Inv.exists_step {s : State} (i : Inv s) (h : TrimsKept s) : ∃ t, step s = .next t := by
  obtain ⟨hh, hv⟩ := h
  cases hstep : step s with
  | next t => exact ⟨t, rfl⟩
  | fault f => exact nomatch f
  | refused r =>
    obtain ⟨-, hbad⟩ | ⟨-, hr, hbad⟩ | ⟨-, -, -, -, hbad⟩ | ⟨-, -, -, -, -, hbad⟩ :=
      refusalsHaveTheirReasons s r hstep
    · exact nomatch i.cfgOk.symm.trans hbad
    · exact nomatch (i.busyFits hr).1.symm.trans hbad
    · exact nomatch hh.symm.trans hbad
    · exact nomatch hv.symm.trans hbad

/-- The first cycle of a run that ends, and the cycles after it. -/
theorem runCycles_succ_next_iff {n : Nat} {s t : State} :
    runCycles (n + 1) s = .next t ↔ ∃ u, step s = .next u ∧ runCycles n u = .next t := by
  rw [runCycles]
  cases step s <;> simp

/-- Without reset, a run of any length under a host that keeps the trim contract completes. -/
theorem Inv.exists_runCycles {s : State} (i : Inv s) (h : TrimsKept s) {n : Nat}
    (hhost : ∀ p ∈ s.inputs.take n, p.rst = 0 ∧ p.KeepsTrims s.cfg) : ∃ t, runCycles n s = .next t := by
  induction n generalizing s with
  | zero => exact ⟨s, rfl⟩
  | succ n ih =>
    obtain ⟨h0, hkeeps⟩ := State.pins_of_take hhost ⟨rfl, idle_keepsTrims s.cfg⟩
    obtain ⟨t, hstep⟩ := i.exists_step h
    have hrest := forall_take_inputs_of_step hhost hstep
    rw [← configurationNeverChanges s t hstep] at hrest
    obtain ⟨u, hrun⟩ := ih (step_keeps_inv i hstep) (h.of_step h0 hkeeps hstep) hrest
    exact ⟨u, runCycles_succ_next_iff.2 ⟨t, hstep, hrun⟩⟩

/-! ## The frame counter -/

/-- K.end of the last line of the active region counts the frame, and no other event of a line does
(spec/42_pixel_kernels.md R172, R174). -/
theorem kernelCycle_frameCount {s : State} (hw : s.cfg.wellFormed = true) :
    (kernelCycle s).frameCount =
      if s.rendering = true ∧ s.kEndDue = true ∧ s.atLastLine = true then s.frameCount + 1 else s.frameCount := by
  by_cases hk : s.rendering = true ∧ s.kEndDue = true
  · obtain ⟨hr, he⟩ := hk
    rw [kernelCycle_of_kEndDue s hw hr he, State.kEnd_eq]
    simp [hr, he]
  · obtain ⟨-, -, -, -, -, -, -, hrest⟩ := kernelCycle_frame s
    obtain ⟨-, hcount, -⟩ := hrest hk
    rw [hcount, if_neg fun ⟨hr, he, _⟩ => hk ⟨hr, he⟩]

/-- A tick counts no frame, and begins a line exactly when `handler` is Kernel. -/
theorem tick_display {s t : State} (h : tick s = .next t) :
    t.frameCount = s.frameCount ∧ t.rendering = (s.rendering || decide (s.handler = .kernel)) := by
  rw [tick_eq] at h
  cases hh : s.handler with
  | inactive =>
    rw [if_pos hh] at h
    obtain ⟨-, -, rfl⟩ | ⟨-, -, rfl⟩ | ⟨-, -, -, rfl⟩ | ⟨-, -, -, rfl⟩ := execLineInactive_next _ t h <;>
      exact ⟨rfl, (Bool.or_false _).symm⟩
  | kernel =>
    rw [if_neg (by simp [hh])] at h
    obtain ⟨-, rfl⟩ := (kBegin_next_iff _ _ t).1 h
    exact ⟨rfl, (Bool.or_true _).symm⟩

/-- The display of the current frame has ended: its last line is complete (spec/42_pixel_kernels.md R174). -/
def State.displayEnded (s : State) : Bool := !s.rendering && decide (s.aeEff ≤ s.lineNumber.toNat)

theorem State.displayEnded_iff (s : State) :
    s.displayEnded = true ↔ s.rendering = false ∧ s.aeEff ≤ s.lineNumber.toNat := by
  simp [State.displayEnded]

/-- What `frame_count` was at the start of the current frame. -/
def State.frameAtStart (s : State) : BitVec 16 := if s.displayEnded then s.frameCount - 1 else s.frameCount

theorem State.frameAtStart_congr {s t : State} (hended : t.displayEnded = s.displayEnded)
    (hcount : t.frameCount = s.frameCount) : t.frameAtStart = s.frameAtStart := by
  rw [State.frameAtStart, State.frameAtStart, hended, hcount]

/-- Within a period only K.end of the last line counts the frame. -/
theorem countOn_frameCount {s : State} (hw : s.cfg.wellFormed = true) :
    s.countOn.frameCount =
      if s.rendering = true ∧ s.kEndDue = true ∧ s.atLastLine = true then s.frameCount + 1 else s.frameCount :=
  kernelCycle_frameCount (s := s.popInput.clearStrobes) hw

/-- Within a period only K.end of the last line ends the display. -/
theorem Inv.countOn_displayEnded {s : State} (i : Inv s) :
    s.countOn.displayEnded = true ↔
      s.displayEnded = true ∨ s.rendering = true ∧ s.kEndDue = true ∧ s.atLastLine = true := by
  obtain ⟨hcfg, hline, -, htrim, -⟩ := samePeriod_countOn s
  obtain ⟨hrendering, -⟩ := countOn_completion i.cfgOk
  have hlast : s.atLastLine = true ↔ (s.lineNumber.toNat : Int) = s.aeEff := decide_eq_true_iff
  rw [s.countOn.displayEnded_iff, s.displayEnded_iff, State.aeEff_congr hcfg htrim, hline, hrendering, hlast]
  cases hr : s.rendering with
  | false => simp
  | true =>
    obtain ⟨-, -, hle⟩ := i.busyHandler hr
    cases s.kEndDue
    · simp
    · simp
      omega

/-- Within a period the display ends exactly when the frame is counted. -/
theorem Inv.countOn_frameAtStart {s : State} (i : Inv s) : s.countOn.frameAtStart = s.frameAtStart := by
  have hended := i.countOn_displayEnded
  have hcount := countOn_frameCount i.cfgOk
  by_cases hk : s.rendering = true ∧ s.kEndDue = true ∧ s.atLastLine = true
  · have hbefore : s.displayEnded = false := by simp [State.displayEnded, hk]
    rw [State.frameAtStart, State.frameAtStart, if_pos (hended.2 (.inr hk)), hcount, if_pos hk, hbefore]
    exact BitVec.add_sub_cancel _ _
  · refine State.frameAtStart_congr ?_ (hcount.trans (if_neg hk))
    rw [Bool.eq_iff_iff, hended]
    exact or_iff_left hk

/-- A tick within the frame neither ends the display nor counts: an idle line stays on its side of the last line of the
display, and a line that begins is at most that. -/
theorem Inv.tick_frameAtStart {s t : State} (i : Inv s) (hr : s.rendering = false)
    (hwrap : s.lineNumber.toNat + 1 ≠ s.cfg.linesPerFrame) (h : tick s.clearStrobes = .next t) :
    t.frameAtStart = s.frameAtStart := by
  obtain ⟨hw, -⟩ | ⟨-, hline, htrim⟩ := i.tick_lineNumber hr h
  · exact absurd hw hwrap
  obtain ⟨hcount, hrendering⟩ := tick_display h
  obtain ⟨-, -, hnonempty, -⟩ := i.thresholds
  have hend : t.aeEff = s.aeEff := State.aeEff_congr ((tick_keeps_cfg h).trans s.clearStrobes_cfg) htrim
  refine State.frameAtStart_congr ?_ hcount
  rw [State.clearStrobes_rendering, hr, State.clearStrobes_handler] at hrendering
  rw [Bool.eq_iff_iff, t.displayEnded_iff, s.displayEnded_iff, hend, hline, i.lineNumber_succ, hrendering, hr]
  cases hh : s.handler with
  | inactive =>
    have hside := i.outside_of_inactive hr hh
    simp
    omega
  | kernel =>
    have hinside := i.inside_of_kernel hr hh
    simp
    omega

/-! ## The place of a cycle in its frame -/

/-- How many cycles of the current frame came before this one. -/
def State.frameCycle (s : State) : Nat := s.lineNumber.toNat * s.cfg.hCycles + s.hcount.toNat

/-- The last cycle of a frame is the last of its last period. -/
theorem Inv.frameCycle_succ_eq_iff {s : State} (i : Inv s) :
    s.frameCycle + 1 = s.cfg.linesPerFrame * s.cfg.hCycles ↔
      s.hcount.toNat + 1 = s.cfg.hCycles ∧ s.lineNumber.toNat + 1 = s.cfg.linesPerFrame := by
  have hcount := i.hcountLt
  have hline := i.lineLt
  unfold State.frameCycle
  constructor
  · intro h
    have hlines : s.cfg.linesPerFrame ≤ s.lineNumber.toNat + 1 := by
      refine Nat.le_of_mul_le_mul_right ?_ (Nat.zero_lt_of_lt hcount)
      rw [Nat.succ_mul]
      omega
    have hlast : s.lineNumber.toNat + 1 = s.cfg.linesPerFrame := by omega
    rw [← hlast, Nat.succ_mul] at h
    exact ⟨by omega, hlast⟩
  · rintro ⟨hlast, hwrap⟩
    rw [← hwrap, Nat.succ_mul]
    omega

section
variable {s t : State} (i : Inv s) (h0 : s.pins.rst = 0) (h : step s = .next t)
include i h0 h

/-- A cycle without reset is the tick, with no line in progress, or goes on in its period. -/
theorem Inv.step_cases :
    (s.hcount.toNat + 1 = s.cfg.hCycles ∧ s.rendering = false ∧
      ∃ host rend, tick s.popInput.clearStrobes = .next rend ∧ t = commit host rend) ∨
    (s.hcount.toNat + 1 ≠ s.cfg.hCycles ∧ ∃ host, t = commit host s.countOn) := by
  obtain ⟨-, ⟨h1, -⟩ | ⟨-, host, rend, -, hrend, rfl⟩⟩ := (step_next_iff s t).1 h
  · exact absurd (h0.symm.trans h1) (by decide)
  obtain ⟨hlast, hr, htick⟩ | ⟨hnot, rfl⟩ := (popInput_keeps_inv i).rendererCycle_cases hrend
  · exact .inl ⟨hlast, hr, host, rend, htick, rfl⟩
  · exact .inr ⟨hnot, host, rfl⟩

/-- A cycle that is not the last of its frame. -/
theorem Inv.step_in_frame (hnot : s.frameCycle + 1 ≠ s.cfg.linesPerFrame * s.cfg.hCycles) :
    t.frameCycle = s.frameCycle + 1 ∧ t.frameAtStart = s.frameAtStart := by
  have hcfg := configurationNeverChanges s t h
  rw [Ne, i.frameCycle_succ_eq_iff] at hnot
  unfold State.frameCycle
  rw [hcfg]
  obtain ⟨hlast, hr, host, rend, htick, rfl⟩ | ⟨hgo, host, rfl⟩ := i.step_cases h0 h
  · have hwrap : s.lineNumber.toNat + 1 ≠ s.cfg.linesPerFrame := fun hwrap => hnot ⟨hlast, hwrap⟩
    have hstart : rend.frameAtStart = s.frameAtStart := (popInput_keeps_inv i).tick_frameAtStart hr hwrap htick
    refine ⟨?_, hstart⟩
    obtain ⟨hcount, -⟩ := tick_timer htick
    obtain ⟨hw, -⟩ | ⟨-, hline, -⟩ := (popInput_keeps_inv i).tick_lineNumber hr htick
    · exact absurd hw hwrap
    have hnext := i.lineNumber_succ
    rw [commit_hcount, commit_lineNumber, hcount, hline, State.popInput_lineNumber, hnext, Nat.succ_mul]
    simp
    omega
  · obtain ⟨-, hline, -⟩ := samePeriod_countOn s
    have hcount : s.countOn.hcount.toNat = s.hcount.toNat + 1 := i.hcount_succ hgo
    refine ⟨?_, i.countOn_frameAtStart⟩
    rw [commit_hcount, commit_lineNumber, hcount, hline]
    omega

/-- The last cycle of a frame is the wrap, and the display has ended before it. -/
theorem Inv.step_of_frame_end (hend : s.frameCycle + 1 = s.cfg.linesPerFrame * s.cfg.hCycles) :
    t.hcount = 0 ∧ t.lineNumber = 0 ∧ t.frameCount = s.frameAtStart + 1 := by
  obtain ⟨hlast, hwrap⟩ := i.frameCycle_succ_eq_iff.1 hend
  obtain ⟨-, hr, host, rend, htick, rfl⟩ | ⟨hgo, -⟩ := i.step_cases h0 h
  · obtain ⟨hcount, -⟩ := tick_timer htick
    obtain ⟨hframe, -⟩ := tick_display htick
    obtain ⟨-, hline⟩ | ⟨hno, -⟩ := (popInput_keeps_inv i).tick_lineNumber hr htick
    · obtain ⟨-, -, -, hafter⟩ := i.thresholds
      have hended : s.displayEnded = true := s.displayEnded_iff.2 ⟨hr, by omega⟩
      refine ⟨hcount, hline, hframe.trans ?_⟩
      rw [State.frameAtStart, if_pos hended]
      exact (BitVec.sub_add_cancel _ _).symm
    · exact absurd hwrap hno
  · exact absurd hlast hgo

end

/-- Without reset, a run over the cycles that are left of a frame, if it ends, ends in cycle 0 of line 0 and leaves one
frame more than there was at the start of the frame. -/
theorem Inv.runCycles_to_frame_end {s t : State} (i : Inv s) {n : Nat} (hhost : ∀ p ∈ s.inputs.take (n + 1), p.rst = 0)
    (hend : s.frameCycle + (n + 1) = s.cfg.linesPerFrame * s.cfg.hCycles) (h : runCycles (n + 1) s = .next t) :
    t.hcount = 0 ∧ t.lineNumber = 0 ∧ t.frameCount = s.frameAtStart + 1 := by
  induction n generalizing s with
  | zero =>
    obtain ⟨u, hstep, hu⟩ := runCycles_succ_next_iff.1 h
    obtain rfl := Host.Outcome.next.inj hu
    exact i.step_of_frame_end (State.pins_of_take hhost rfl) hstep hend
  | succ n ih =>
    obtain ⟨u, hstep, hrun⟩ := runCycles_succ_next_iff.1 h
    obtain ⟨hcycle, hstart⟩ := i.step_in_frame (State.pins_of_take hhost rfl) hstep (by omega)
    have hcfg := configurationNeverChanges s u hstep
    rw [← hstart]
    exact ih (step_keeps_inv i hstep) (forall_take_inputs_of_step hhost hstep) (by rw [hcycle, hcfg]; omega) hrun

/-! ## The statements -/

/-- Settles O52: a run over a whole frame is one over the cycles that are left of it at its start, where no display has
ended; and no step of it is refused while the host keeps the trim contract. -/
theorem everyFrameCountsOnce : Obligations.EveryFrameCountsOnce := by
  intro s hinv hcount hline hrst
  have hbegin : s.frameCycle = 0 := by simp [State.frameCycle, hcount, hline]
  have hstart : s.frameAtStart = s.frameCount := by
    obtain ⟨-, hbefore, hnonempty, -⟩ := hinv.thresholds
    refine if_neg fun hended => ?_
    obtain ⟨-, hle⟩ := s.displayEnded_iff.1 hended
    simp [hline] at hle
    omega
  constructor
  · intro t hrun
    have hpos : 0 < s.cfg.linesPerFrame * s.cfg.hCycles :=
      Nat.mul_pos (Nat.zero_lt_of_lt hinv.lineLt) (Nat.zero_lt_of_lt hinv.hcountLt)
    obtain ⟨n, hn⟩ := Nat.exists_eq_add_one.2 hpos
    rw [hn] at hrst hrun
    rw [← hstart]
    exact hinv.runCycles_to_frame_end hrst (by omega) hrun
  · intro hkept htrims
    exact hinv.exists_runCycles hkept fun p hp => ⟨hrst p hp, htrims p hp⟩

/-- Settles O18, by the three comparisons of R141 in their order. -/
theorem lineInactiveCountsAndSwitches : Obligations.LineInactiveCountsAndSwitches := by
  intro s hv
  show execLineInactive s = _
  simp only [execLineInactive, State.atWrap, State.atVsyncEnd, State.atActiveStart, decide_eq_true_eq]
  by_cases hwrap : (s.lineNumber + 1).toNat = s.cfg.linesPerFrame
  · rw [if_pos hwrap, if_pos hwrap, if_pos (hv hwrap)]
    rfl
  rw [if_neg hwrap, if_neg hwrap]
  by_cases hvsync : (s.lineNumber + 1).toNat = s.cfg.vsyncEnd
  · rw [if_pos hvsync, if_pos hvsync]
    rfl
  rw [if_neg hvsync, if_neg hvsync]
  by_cases hactive : ((s.lineNumber + 1).toNat : Int) = s.asEff
  · rw [if_pos hactive, if_pos (show _ = _ + _ from hactive)]
    rfl
  · rw [if_neg hactive, if_neg (show ¬ _ = _ + _ from hactive)]

/-- Settles O57, row by row; the invariant orders the thresholds. -/
theorem regionFollowsTable : Obligations.RegionFollowsTable := by
  intro s hinv
  obtain ⟨hv, hs, he, -⟩ := hinv.thresholds
  have hpos : 0 < s.cfg.vsyncEnd := by omega
  have hstart : s.asEff = s.cfg.activeStart + s.vTrimL.toInt := rfl
  have hend : s.aeEff = s.cfg.activeEnd + s.vTrimL.toInt := rfl
  rw [← hstart, ← hend]
  refine ⟨fun h => ?_, State.regionOf_eq_sync, fun h h' => State.regionOf_eq_postSync h hpos h',
    fun h h' => State.regionOf_eq_active (by omega) hpos h h',
    fun h _ => State.regionOf_eq_postActive (by omega) hpos (by omega) h⟩
  rw [State.region, h]
  exact s.regionOf_zero

end Sys2Proof.Machine
end

section
/-! # Proofs of the statements on the pixel kernels (spec/42_pixel_kernels.md)

K.begin, the schedule of a rendered line, its addresses and pixels, and K.end. The facts come first, in the order of the
definitions they speak of: the addresses of a cell and of a bitmap byte, the pixels of a tile byte, the columns due, and
what the cycle of a fetch, of K.end and of a tick leaves. -/

namespace Sys2Proof.Machine

/-! ## Addresses -/

theorem State.scrAddr_toNat_mod (s : State) (col : Nat) :
    (s.scrAddr col).toNat = (s.rowPtr.toNat + col) % 65536 := by
  simp [State.scrAddr]

/-- Bit 7 of a cell separates the values below 128 from the others. -/
theorem getLsbD_seven_eq (t : Byte) : t.getLsbD 7 = decide (128 ≤ t.toNat) :=
  t.msb_eq_getLsbD_last.symm.trans t.msb_eq_decide

theorem bankOf_eq (c : Cfg) (t : Byte) :
    bankOf c t = if c.hasRam = true ∧ 128 ≤ t.toNat then .ramt else .rom := by
  simp only [bankOf, getLsbD_seven_eq, Bool.and_eq_true, decide_eq_true_eq]

/-- Without RAM tiles the index has all 8 bits of the cell (spec/42_pixel_kernels.md R164). -/
theorem indexOf_of_not_hasRam {c : Cfg} (hram : c.hasRam = false) (t : Byte) :
    indexOf c t = t.toNat % tilesIn c (bankOf c t) := by
  simp [indexOf, hram]

/-- With RAM tiles the index has the 7 low bits of the cell (spec/42_pixel_kernels.md R164). -/
theorem indexOf_of_hasRam {c : Cfg} (hram : c.hasRam = true) (t : Byte) :
    indexOf c t = t.toNat % 128 % tilesIn c (bankOf c t) := by
  simp [indexOf, hram]

/-- `TileAddr` in both layouts (spec/42_pixel_kernels.md R165). -/
theorem tileAddr_toNat (c : Cfg) (base : Addr) (n idx r : Nat) :
    (tileAddr c base n idx r).toNat =
      (match c.tileLayout with
      | .tileMajor => base.toNat + idx * c.tileH + r
      | .rowMajor => base.toNat + r * n + idx) % 65536 := by
  unfold tileAddr
  cases c.tileLayout with
  | tileMajor => exact BitVec.toNat_ofNat _ _
  | rowMajor => exact BitVec.toNat_ofNat _ _

/-- A cell of the ROM bank is addressed from `lfont` (spec/42_pixel_kernels.md R165). -/
theorem State.cellAddr_of_rom {s : State} {t : Byte} (hb : bankOf s.cfg t = .rom) :
    s.cellAddr t = tileAddr s.cfg s.lfont s.cfg.romTiles (indexOf s.cfg t) s.tileRowOffset.toNat := by
  rw [State.cellAddr, hb]
  rfl

/-- A cell of the RAMT bank is addressed from `lram` (spec/42_pixel_kernels.md R165). -/
theorem State.cellAddr_of_ramt {s : State} {t : Byte} (hb : bankOf s.cfg t = .ramt) :
    s.cellAddr t = tileAddr s.cfg s.lram s.cfg.ramTiles (indexOf s.cfg t) s.tileRowOffset.toNat := by
  rw [State.cellAddr, hb]
  rfl

/-! ## Pixels -/

/-- Without horizontal scroll every pixel is visible (spec/42_pixel_kernels.md R168). -/
theorem visible_of_not_k8rs {c : Cfg} (hv : c.variant ≠ .k8rs) (h : Scroll) (col k : Nat) :
    visible c h col k = true := by
  simp [visible, Cfg.hasHScroll, hv]

theorem visible_first {c : Cfg} (hv : c.variant = .k8rs) (h : Scroll) (k : Nat) :
    visible c h 0 k = decide (h.toNat ≤ k) := by
  simp [visible, Cfg.hasHScroll, hv]

theorem visible_last {c : Cfg} (hv : c.variant = .k8rs) (hcols : 1 ≤ c.visCols) (h : Scroll) (k : Nat) :
    visible c h c.visCols k = decide (k < h.toNat) := by
  have hpos : c.visCols ≠ 0 := by omega
  simp [visible, Cfg.hasHScroll, hv, hpos]

/-- A scroll masks pixels of the first and of the last column only (spec/42_pixel_kernels.md R168). -/
theorem visible_between {c : Cfg} {col : Nat} (hfirst : 0 < col) (hlast : col < c.visCols) (h : Scroll) (k : Nat) :
    visible c h col k = true := by
  simp [visible, hfirst.ne', hlast.ne]

/-- `0xFF >> h` keeps, of the pixels in the order of `MSB_FIRST` = 1, those from `h` on. -/
theorem getLsbD_scrollMask_right (h : Scroll) {k : Nat} (hk : k < 8) :
    ((0xFF : Byte) >>> h.toNat).getLsbD (7 - k) = decide (h.toNat ≤ k) := by
  rw [BitVec.getLsbD_ushiftRight, show (0xFF : Byte) = BitVec.allOnes 8 from rfl, BitVec.getLsbD_allOnes,
    decide_eq_decide]
  omega

/-- `0xFF << h` keeps, of the pixels in the order of `MSB_FIRST` = 0, those from `h` on. -/
theorem getLsbD_scrollMask_left (h : Scroll) {k : Nat} (hk : k < 8) :
    ((0xFF : Byte) <<< h.toNat).getLsbD k = decide (h.toNat ≤ k) := by
  rw [BitVec.getLsbD_shiftLeft, show (0xFF : Byte) = BitVec.allOnes 8 from rfl, BitVec.getLsbD_allOnes,
    decide_eq_true hk, decide_eq_true (show k - h.toNat < 8 by omega), Bool.true_and, Bool.and_true, ← decide_not,
    decide_eq_decide]
  omega

/-! ## The columns due -/

/-- The column that is due, in the cycles of R166: `g(c) = x0 + c × PPT × CPP`. -/
theorem State.columnDue_eq_some_iff_cycle {s : State} (hw : s.cfg.wellFormed = true) (lead col : Nat) :
    s.columnDue lead = some col ↔
      col < s.cfg.fetchCols ∧ (s.hcount.toNat : Int) + lead = s.x0 + col * s.cfg.ppt * s.cfg.cpp := by
  rw [State.columnDue_eq_some_iff _ _ _ (s.cfg.colCycles_pos hw), Cfg.colCycles, Nat.cast_mul, mul_assoc]

theorem State.columnDue_eq_none_iff_cycle {s : State} (hw : s.cfg.wellFormed = true) (lead : Nat) :
    s.columnDue lead = none ↔
      ∀ col < s.cfg.fetchCols, (s.hcount.toNat : Int) + lead ≠ s.x0 + col * s.cfg.ppt * s.cfg.cpp := by
  simp only [Option.eq_none_iff_forall_ne_some, ne_eq, State.columnDue_eq_some_iff_cycle hw, not_and]

/-- No fetch of a line that fits its period falls in the cycle of the tick (spec/40_scanline_timer_sync.md R123). -/
theorem State.not_lastCycle_of_columnDue {s : State} (hw : s.cfg.wellFormed = true)
    (hf : s.cfg.lineFits s.ltrim s.lh = true) {lead col : Nat}
    (hd : s.columnDue lead = some col) : s.hcount.toNat + 1 ≠ s.cfg.hCycles := by
  obtain ⟨hcol, hcycle⟩ := (s.columnDue_eq_some_iff lead col (s.cfg.colCycles_pos hw)).1 hd
  have hcolumn := s.column_le_xEnd col hcol
  have hbounds := Cfg.bounds_of_lineFits hf
  unfold State.xEnd at hcolumn
  omega

/-! ## The cycle of a fetch -/

/-- Only a cell fetch writes `cell` (spec/42_pixel_kernels.md R166). -/
theorem kernelCycle_cell_of_not_due {s : State} (h2 : s.columnDue 2 = none) : (kernelCycle s).cell = s.cell := by
  obtain ⟨-, h⟩ | ⟨-, col, hdue, -⟩ | ⟨-, -, -, h⟩ | ⟨-, -, -, -, h⟩ | ⟨-, -, -, -, h⟩ := kernelCycle_cases s
  · rw [h]
  · exact nomatch h2.symm.trans hdue
  · rw [h, State.fetchTile_cell]
  · rw [h, State.kEnd_eq]
  · rw [h]

theorem countOn_cell_of_not_due {s : State} (hd : s.columnDue 2 = none) : s.countOn.cell = s.cell :=
  kernelCycle_cell_of_not_due (s := s.popInput.clearStrobes) hd

/-- A cycle that is not the last of its period completes without reset when the line in progress fits. -/
theorem step_countOn_of_lineFits {s : State} (hw : s.cfg.wellFormed = true) (h0 : s.pins.rst = 0)
    (hf : s.cfg.lineFits s.ltrim s.lh = true) (ht : s.hcount.toNat + 1 ≠ s.cfg.hCycles) :
    ∃ host, step s = .next (commit host s.countOn) := by
  obtain ⟨host, -, hstep⟩ := step_of_not_tick s hw h0 (fun _ => hf) ht
  exact ⟨host, hstep⟩

/-! ## The cycle of K.end -/

/-- What the renderer's half of the cycle of K.end leaves (spec/42_pixel_kernels.md R172). -/
theorem countOn_of_kEndDue {s : State} (hw : s.cfg.wellFormed = true) (hr : s.rendering = true)
    (hk : s.kEndDue = true) : s.countOn = { s.popInput.clearStrobes.kEnd with hcount := s.hcount + 1 } := by
  rw [State.countOn, kernelCycle_of_kEndDue s.popInput.clearStrobes hw hr hk]

/-! ## The cycle of a tick -/

/-- What K.begin writes: the next line begins, on the controls as they stand (spec/42_pixel_kernels.md R161). -/
def State.beginLine (s : State) (scroll : Scroll) : State :=
  { s with
    lineNumber := s.lineNumber + 1
    rendering := true
    lh := scroll
    ltrim := if s.cfg.trimEn then s.hTrim else 0
    lfont := s.fontBase
    lram := s.ramtBase }

/-- Within the trim contract K.begin is not refused (spec/43_display_config_ops.md R217). -/
theorem kBegin_of_hTrimOk {s : State} (h : s.cfg.hTrimOk s.hTrim = true) (scroll : Scroll) :
    kBegin scroll s = .next (s.beginLine scroll) :=
  (kBegin_next_iff scroll s _).2 ⟨h, rfl⟩

/-- The tick that finds `handler` = Kernel runs K.begin with the scroll of the variant (spec/42_pixel_kernels.md R161,
R176 to R179). -/
theorem tick_of_kernel {s : State} (hh : s.handler = .kernel) (hok : s.cfg.hTrimOk s.hTrim = true) :
    tick s = .next (State.beginLine { s with hcount := 0, swActive := s.swPending }
      (if s.cfg.hasHScroll then s.hFine else 0)) := by
  rw [tick_eq, if_neg (by simp [hh])]
  exact kBegin_of_hTrimOk (s := { s with hcount := 0, swActive := s.swPending }) hok _

/-- A tick reads no memory: the fetch registers keep the line's last bytes. -/
theorem tick_keeps_fetches {s t : State} (h : tick s = .next t) : t.cell = s.cell ∧ t.cur = s.cur := by
  rw [tick_eq] at h
  split at h
  next =>
    obtain ⟨-, -, rfl⟩ | ⟨-, -, rfl⟩ | ⟨-, -, -, rfl⟩ | ⟨-, -, -, rfl⟩ := execLineInactive_next _ t h <;>
      exact ⟨rfl, rfl⟩
  next =>
    obtain ⟨-, rfl⟩ := (kBegin_next_iff _ _ t).1 h
    exact ⟨rfl, rfl⟩

/-- A step in a cycle without a fetch keeps both fetch registers, be it a tick or not. -/
theorem step_keeps_fetches {s t : State} (h0 : s.pins.rst = 0) (h2 : s.columnDue 2 = none) (h1 : s.columnDue 1 = none)
    (h : step s = .next t) : t.cell = s.cell ∧ t.cur = s.cur := by
  have hcell := countOn_cell_of_not_due h2
  have hcur := countOn_cur_of_not_due h1
  obtain ⟨-, -, host, rend, htick, rfl⟩ | ⟨-, host, rfl⟩ := step_tick_or_countOn h0 h
  · obtain ⟨tcell, tcur⟩ := tick_keeps_fetches htick
    exact ⟨tcell.trans hcell, tcur.trans hcur⟩
  · exact ⟨hcell, hcur⟩

/-! ## The statements -/

/-- Settles O20: each kernel operation is K.begin with its own scroll. -/
theorem kernelOperationsBegin : Obligations.KernelOperationsBegin := by
  intro s hok
  refine ⟨fun i hi => ?_, kBegin_of_hTrimOk hok s.hFine⟩
  have hbegin : exec i s = kBegin 0 s := by
    simp only [List.mem_cons, List.not_mem_nil, or_false] at hi
    obtain rfl | rfl | rfl := hi <;> rfl
  exact hbegin.trans (kBegin_of_hTrimOk hok 0)

/-- Settles O34: the bank is read from bit 7, and the 7-bit index of a cell is the cell itself or the cell less 128. -/
theorem bankAndIndexOfCell : Obligations.BankAndIndexOfCell := by
  intro c t
  have hlt := t.isLt
  refine ⟨fun hram => ?_, fun hram ht => ?_, fun hram ht => ?_⟩
  · have hbank : bankOf c t = .rom := (bankOf_eq c t).trans (if_neg (by simp [hram]))
    refine ⟨hbank, ?_⟩
    rw [indexOf_of_not_hasRam hram, hbank]
    rfl
  · have hbank : bankOf c t = .rom := (bankOf_eq c t).trans (if_neg (by omega))
    refine ⟨hbank, ?_⟩
    rw [indexOf_of_hasRam hram, hbank, Nat.mod_eq_of_lt ht]
    rfl
  · have hbank : bankOf c t = .ramt := (bankOf_eq c t).trans (if_pos ⟨hram, ht⟩)
    refine ⟨hbank, ?_⟩
    rw [indexOf_of_hasRam hram, hbank, show t.toNat % 128 = t.toNat - 128 by omega]
    rfl

/-- Settles O35, by the bank of the cell. -/
theorem tileAddressFollowsLayout : Obligations.TileAddressFollowsLayout := by
  intro s t
  refine ⟨fun hb => ?_, fun hb => ?_, fun hp => State.memRead_of_populated hp _⟩
  · rw [State.cellAddr_of_rom hb]
    exact tileAddr_toNat _ _ _ _ _
  · rw [State.cellAddr_of_ramt hb]
    exact tileAddr_toNat _ _ _ _ _

/-- Settles O39: the first mask has a 1 at exactly the visible pixels of the first tile, and its complement at those of
the last. -/
theorem scrollMasksAreByteMasks : Obligations.ScrollMasksAreByteMasks := by
  intro c h b k hv hcols hk
  have hcompl : decide (k < h.toNat) = !decide (h.toNat ≤ k) := by rw [← decide_not, decide_eq_decide, not_le]
  rw [visible_first hv, visible_last hv hcols, hcompl]
  refine ⟨fun hmsb => ?_, fun hlsb => ?_, ?_⟩
  · have hbit : 7 - k < 8 := by omega
    rw [pixelBit, if_pos hmsb, BitVec.getLsbD_and, BitVec.getLsbD_and, BitVec.getLsbD_not, decide_eq_true hbit,
      getLsbD_scrollMask_right h hk, Bool.true_and]
    exact ⟨Bool.and_comm _ _, Bool.and_comm _ _⟩
  · rw [pixelBit, if_neg (by simp [hlsb]), BitVec.getLsbD_and, BitVec.getLsbD_and, BitVec.getLsbD_not,
      decide_eq_true hk, getLsbD_scrollMask_left h hk, Bool.true_and]
    exact ⟨Bool.and_comm _ _, Bool.and_comm _ _⟩
  · rintro s - rfl
    rfl

/-- Settles O54: the pixel order by definition, and the three kinds of column of a scrolled line. -/
theorem pixelOrderAndVisibility : Obligations.PixelOrderAndVisibility := by
  intro c h b col k
  refine ⟨fun _ => rfl, fun hv n => ?_, fun hv => visible_of_not_k8rs hv h col k, fun hv hcols =>
    ⟨visible_first hv h k, visible_last hv hcols h k, fun hfirst hlast => visible_between hfirst hlast h k⟩⟩
  have hppt : c.ppt = 6 := if_pos hv
  rw [hppt]
  exact Nat.mod_lt n (by decide)

/-- Settles O55: both ends are read from the latches, which hold 0 in a build without trims and scroll. -/
theorem lineStartsAndEndsByItsLatches : Obligations.LineStartsAndEndsByItsLatches := by
  intro s
  have hx0 : s.x0 = s.cfg.hStart + s.ltrim.toInt - s.lh.toNat * s.cfg.cpp := rfl
  refine ⟨hx0, rfl, by rw [hx0, sub_add_cancel], fun hinv htrim hscroll => ?_⟩
  rw [hx0, (hinv.trimOff htrim).2, hinv.scrollOff hscroll]
  simp

/-- Settles O49, by W7 through the row registers of the invariant. -/
theorem screenFetchesStayPopulated : Obligations.ScreenFetchesStayPopulated := by
  intro s col hcol
  refine ⟨s.scrAddr_toNat_mod col, fun hinv hr => ?_⟩
  have hpop := hinv.scrAddr_populated hr hcol
  exact ⟨of_decide_eq_true hpop, hpop⟩

/-- Settles O28: the host's half answers, and the renderer's half is the tick, which runs K.begin with the scroll of the
variant on the state of the start of the cycle. -/
theorem kernelTickLatchesControls : Obligations.KernelTickLatchesControls := by
  intro s hw h0 hr hh hlast hok
  obtain ⟨host, hhost⟩ := host_half_next s
  have hrend := (rendererCycle_of_idle_tick (s := s.popInput) hr hlast).trans
    (tick_of_kernel (s := s.popInput.clearStrobes) hh hok)
  refine ⟨_, (step_next_iff s _).2 ⟨hw, .inr ⟨h0, host, _, hhost, hrend, rfl⟩⟩, ?_⟩
  exact ⟨rfl, rfl, rfl, rfl, rfl, rfl, rfl, rfl, rfl, rfl, rfl, rfl, rfl, rfl, rfl, rfl, rfl, rfl⟩

/-- Settles O33: the cycles of R166 are those in which a column is due; each reads its own byte, and the other fetch
register is left because no two fetches fall in one cycle. -/
theorem fetchSchedule : Obligations.FetchSchedule := by
  intro s hw h0 hr hf
  refine ⟨fun col hcol => ⟨fun hcycle => ?_, fun hcycle => ?_⟩, fun hnone t hstep => ?_⟩
  · have hdue := (State.columnDue_eq_some_iff_cycle hw 2 col).2 ⟨hcol, hcycle⟩
    obtain ⟨host, hstep⟩ := step_countOn_of_lineFits hw h0 hf (State.not_lastCycle_of_columnDue hw hf hdue)
    refine ⟨_, hstep, ?_, fun hp => ?_⟩
    · exact countOn_cur_of_not_due (s.columnDue_exclusive hw 2 col (.inr rfl) hdue).1
    · exact (countOn_cell hr hdue).trans (State.memRead_of_populated hp _)
  · have hdue := (State.columnDue_eq_some_iff_cycle hw 1 col).2 ⟨hcol, hcycle⟩
    obtain ⟨host, hstep⟩ := step_countOn_of_lineFits hw h0 hf (State.not_lastCycle_of_columnDue hw hf hdue)
    refine ⟨_, hstep, ?_, fun hp => ?_⟩
    · exact countOn_cell_of_not_due (s.columnDue_exclusive hw 1 col (.inl rfl) hdue).1
    · exact (countOn_cur hw hr hdue).trans (State.memRead_of_populated hp _)
  · exact step_keeps_fetches h0
      ((State.columnDue_eq_none_iff_cycle hw 2).2 fun col hcol => (hnone col hcol).1)
      ((State.columnDue_eq_none_iff_cycle hw 1).2 fun col hcol => (hnone col hcol).2) hstep

/-- Settles O36: the cycle is not that of a tick, so the step commits K.end and the counter. -/
theorem kEndPostConditions : Obligations.KEndPostConditions := by
  intro s hw h0 hr hf hend
  obtain ⟨host, hstep⟩ := step_countOn_of_lineFits hw h0 hf (s.not_atTick_of_kEndDue hf hend)
  rw [countOn_of_kEndDue hw hr (decide_eq_true hend), State.kEnd_eq] at hstep
  refine ⟨_, hstep, rfl, rfl, ?_, ?_, rfl, rfl, rfl, rfl, rfl, rfl, rfl, rfl, rfl, rfl, rfl⟩
  · split
    next hrow =>
      have hat : s.popInput.clearStrobes.atLastTileRow = true := decide_eq_true hrow
      simp [hat]
    next hrow =>
      have hat : s.popInput.clearStrobes.atLastTileRow = false := decide_eq_false hrow
      simp [hat]
  · split
    next hline =>
      have hat : s.popInput.clearStrobes.atLastLine = true := decide_eq_true hline
      simp [hat]
    next hline =>
      have hat : s.popInput.clearStrobes.atLastLine = false := decide_eq_false hline
      simp [hat]

end Sys2Proof.Machine
end

section
/-! # Proofs of the statements on the display and configuration operations (spec/43_display_config_ops.md)

The writes and reads of the register space, the memory operations, the reserved forms, and the refusals of the trim
contract. The facts come first, in the order of the definitions they speak of: the trim contract, words with free bits,
the operand forms, and the host's accesses to the memories. A word written as one literal and its operands is, by
evaluation, the word of its five fields, so that `decode_hbWord_write` and `decode_hbWord_read` decode it. -/

namespace Sys2Proof

/-! ## The trim contract -/

/-- The horizontal bounds of spec/43_display_config_ops.md R217, as it writes them. -/
theorem Cfg.hTrimOk_eq_false_iff (c : Cfg) (hTrim : Byte) :
    c.hTrimOk hTrim = false ↔ c.trimEn = true ∧
      ¬ ((c.hsyncW : Int) ≤ c.hStart + hTrim.toInt - c.scrollLead ∧
        (2 : Int) ≤ c.hStart + hTrim.toInt - c.scrollLead ∧
        (c.hStart : Int) + hTrim.toInt + c.slots * c.cpp ≤ c.hCycles - 2) := by
  rw [Cfg.hTrimOk, Bool.or_eq_false_iff, Bool.not_eq_false', decide_eq_false_iff_not,
    le_sub_iff_add_le (b := 2)]

/-- The vertical bounds of R217, with the effective lines written out. -/
theorem Cfg.vTrimOk_eq_false_iff (c : Cfg) (vTrim : Byte) :
    c.vTrimOk vTrim = false ↔ c.trimEn = true ∧
      ¬ ((c.vsyncEnd : Int) < c.activeStart + vTrim.toInt ∧
        (c.activeEnd : Int) + vTrim.toInt < c.linesPerFrame) := by
  rw [Cfg.vTrimOk, Bool.or_eq_false_iff, Bool.not_eq_false', decide_eq_false_iff_not]
  rfl

/-! ## Words with free bits -/

theorem strobesOf_append (strobes : BitVec 2) (z : BitVec 26) : strobesOf (strobes ++ z) = strobes :=
  BitVec.extractLsb'_append_eq_left

theorem decode_nop_append (z : BitVec 26) : decode (.hb ((0 : BitVec 2) ++ z)) = .ok .nop := by
  simp [decode, decodeHb, strobesOf_append]

theorem decode_both_append (z : BitVec 26) : decode (.hb ((3 : BitVec 2) ++ z)) = .ok .both := by
  simp [decode, decodeHb, strobesOf_append]

/-- The strobes and `h_sel` above 24 bits that hold any address and data. -/
theorem append_eq_hbWord (re we : BitVec 1) (sel : BitVec 2) (y : BitVec 24) :
    re ++ we ++ sel ++ y = hbWord re we sel (y.extractLsb' 8 16) (y.extractLsb' 0 8) := by
  have hhalves : y.extractLsb' 8 16 ++ y.extractLsb' 0 8 = y :=
    (BitVec.extractLsb'_append_extractLsb'_eq_extractLsb' rfl).trans BitVec.extractLsb'_eq_self
  rw [hbWord, BitVec.append_assoc (x₁ := re ++ we ++ sel), hhalves]
  rfl

end Sys2Proof

namespace Sys2Proof.Machine

/-! ## The operand forms -/

/-- A 16-bit register is its two halves (spec/20_memory.md R63). -/
theorem toNat_eq_halves (w : BitVec 16) : w.toNat = 256 * (hiByte w).toNat + (loByte w).toNat := by
  have := w.isLt
  simp only [hiByte, loByte, BitVec.extractLsb'_toNat, Nat.shiftRight_eq_div_pow]
  omega

theorem toNat_scrollOf (d : Byte) : (scrollOf d).toNat = d.toNat % 8 := by
  simp [scrollOf]

theorem toNat_scrollByte (v : Scroll) : (scrollByte v).toNat = v.toNat :=
  BitVec.toNat_setWidth_of_le (by decide)

theorem toNat_maskOf (h : Scroll) : (maskOf h).toNat = 255 / 2 ^ h.toNat := by
  rw [maskOf, BitVec.toNat_ushiftRight, Nat.shiftRight_eq_div_pow]
  rfl

/-! ## The host's accesses to the memories -/

theorem populated_screen_iff (c : Cfg) (a : Addr) : populated c .screen a = true ↔ a.toNat < c.screenBytes :=
  decide_eq_true_iff

theorem populated_ramt_iff (c : Cfg) (a : Addr) :
    populated c .ramt a = true ↔ c.hasRam = true ∧ a.toNat < c.ramBytes := by
  simp [populated]

/-- What every byte of a writable space reads as after a host write there: at a populated address the byte is stored,
and no other byte of the space changes. -/
theorem State.stored_hostWrite {sp : Space} (hsp : sp ≠ .rom) (s : State) (a : Addr) (d : Byte) {written : Prop}
    (hw : populated s.cfg sp a = true ↔ written) :
    (written → ((s.memWrite sp a d).putRdata 0).stored sp a = d) ∧
      SameBytesBut s ((s.memWrite sp a d).putRdata 0) sp written a := by
  have hstored (b : Addr) : ((s.memWrite sp a d).putRdata 0).stored sp b =
      if populated s.cfg sp a = true ∧ b = a then d else s.stored sp b := by
    cases sp with
    | screen => exact s.stored_memWrite_screen a b d
    | rom => exact absurd rfl hsp
    | ramt => exact s.stored_memWrite_ramt a b d
  refine ⟨fun h => ?_, fun b hb => ?_⟩
  · rw [hstored, if_pos ⟨hw.2 h, rfl⟩]
  · rw [hstored, if_neg fun ⟨hp, hba⟩ => hb (hw.1 hp) hba]

/-! ## The statements -/

/-- Settles O4, half by half. -/
theorem pointerWritesReplaceOneHalf : Obligations.PointerWritesReplaceOneHalf :=
  fun _ d => ⟨decode_hbWord_write 0 0 d, rfl, decode_hbWord_write 0 1 d, rfl, decode_hbWord_write 0 2 d, rfl,
    decode_hbWord_write 0 3 d, rfl⟩

/-- Settles O5: the mask is shifted by the three bits that the write keeps. -/
theorem scrollWritesKeepThreeBits : Obligations.ScrollWritesKeepThreeBits := by
  intro s d
  refine ⟨decode_hbWord_write 0 4 d, rfl, ?_, decode_hbWord_write 0 6 d, rfl⟩
  rw [← toNat_scrollOf]
  rfl

/-- Settles O6: the next state of each write is the register's update alone. -/
theorem trimWritesStoreTheByte : Obligations.TrimWritesStoreTheByte :=
  fun _ d => ⟨decode_hbWord_write 0 7 d, rfl, decode_hbWord_write 0 8 d, rfl⟩

/-- Settles O7: the four read-only registers by their addresses, and every reserved address. -/
theorem readOnlyWritesAreIgnored : Obligations.ReadOnlyWritesAreIgnored := by
  intro s a d
  refine ⟨decode_hbWord_write 0 5 d, rfl, decode_hbWord_write 0 9 d, rfl, decode_hbWord_write 0 10 d, rfl,
    decode_hbWord_write 0 11 d, rfl, fun ha => ?_, rfl⟩
  have hreserved := decodeRegWrite_of_reserved (decide_eq_true ha) d
  exact (decode_hbWord_write 0 a d).trans (congrArg Except.ok hreserved)

/-- Settles O8: the address alone selects the half, and the write data is not looked at. -/
theorem pointerReadsGiveTheHalves : Obligations.PointerReadsGiveTheHalves :=
  fun _ x => ⟨decode_hbWord_read 0 0 x, rfl, decode_hbWord_read 0 1 x, rfl, decode_hbWord_read 0 2 x, rfl,
    decode_hbWord_read 0 3 x, rfl⟩

/-- Settles O9, by the values of a widened scroll and of the mask. -/
theorem scrollReadsGiveValueAndMask : Obligations.ScrollReadsGiveValueAndMask :=
  fun s x => ⟨scrollByte s.hFine, maskOf s.hFine, scrollByte s.vFine,
    decode_hbWord_read 0 4 x, rfl, toNat_scrollByte s.hFine,
    decode_hbWord_read 0 5 x, rfl, toNat_maskOf s.hFine,
    decode_hbWord_read 0 6 x, rfl, toNat_scrollByte s.vFine⟩

/-- Settles O10: neither read looks at `TRIM_EN` or at the latched trim. -/
theorem trimReadsGiveTheStoredByte : Obligations.TrimReadsGiveTheStoredByte :=
  fun _ x => ⟨decode_hbWord_read 0 7 x, rfl, decode_hbWord_read 0 8 x, rfl⟩

/-- Settles O11: the bytes read are the halves of the counter. -/
theorem frameReadsGiveTheCounter : Obligations.FrameReadsGiveTheCounter :=
  fun s x => ⟨loByte s.frameCount, hiByte s.frameCount, decode_hbWord_read 0 9 x, rfl, decode_hbWord_read 0 10 x, rfl,
    toNat_eq_halves s.frameCount⟩

/-- Settles O13: each form is told by its strobes, its `h_sel` or its reserved address, whatever its free bits. -/
theorem reservedFormsDoNothing : Obligations.ReservedFormsDoNothing := by
  intro s a x y z
  refine ⟨decode_nop_append z, rfl, fun ha => ?_, rfl, ?_, rfl, ?_, rfl, decode_both_append z, rfl⟩
  · have hreserved := decodeRegRead_of_reserved (decide_eq_true ha)
    exact (decode_hbWord_read 0 a x).trans (congrArg Except.ok hreserved)
  · rw [show (0x7 : BitVec 4) ++ y = _ from append_eq_hbWord 0 1 3 y]
    exact decode_hbWord_write 3 _ _
  · rw [show (0xB : BitVec 4) ++ y = _ from append_eq_hbWord 1 0 3 y]
    exact decode_hbWord_read 3 _ _

/-- Settles O14: SCREEN is populated below `SCREEN_BYTES`, and a write of it leaves RAMT. -/
theorem screenWriteStoresOneByte : Obligations.ScreenWriteStoresOneByte := by
  intro s a d
  obtain ⟨hthere, helse⟩ := s.stored_hostWrite (sp := .screen) (by decide) a d (populated_screen_iff s.cfg a)
  refine ⟨decode_hbWord_write 1 a d, _, rfl, hthere, helse, ?_⟩
  rw [State.memWrite_eq, State.memWrite_screen_ramt]
  rfl

/-- Settles O15: what is read at a populated address is what is stored there. -/
theorem screenReadGivesTheByte : Obligations.ScreenReadGivesTheByte :=
  fun s a x => ⟨_, _, decode_hbWord_read 1 a x, rfl,
    fun ha => State.memRead_of_populated ((populated_screen_iff s.cfg a).2 ha) _⟩

/-- Settles O16: RAMT is populated below `RAM_BYTES` in a build with RAM tiles, and a write of it leaves SCREEN. -/
theorem tileRamWriteStoresOneByte : Obligations.TileRamWriteStoresOneByte := by
  intro s a d
  obtain ⟨hthere, helse⟩ := s.stored_hostWrite (sp := .ramt) (by decide) a d (populated_ramt_iff s.cfg a)
  refine ⟨decode_hbWord_write 2 a d, _, rfl, hthere, helse, ?_⟩
  rw [State.memWrite_eq, State.memWrite_ramt_screen]
  rfl

/-- Settles O17: likewise, and RAMT is populated in a build with RAM tiles only. -/
theorem tileRamReadGivesTheByte : Obligations.TileRamReadGivesTheByte :=
  fun s a x => ⟨_, _, decode_hbWord_read 2 a x, rfl,
    fun ha => State.memRead_of_populated ((populated_ramt_iff s.cfg a).2 ha) _⟩

/-- Settles O19: the wrap is the one transition that latches `v_trim`. -/
theorem wrapRefusesTrimOutsideContract : Obligations.WrapRefusesTrimOutsideContract := by
  intro s hwrap htrim hout
  have hok := (s.cfg.vTrimOk_eq_false_iff s.vTrim).2 ⟨htrim, hout⟩
  exact (execLineInactive_refused_iff s _).2 ⟨rfl, decide_eq_true hwrap, hok⟩

/-- Settles O21: each kernel operation is K.begin, whatever scroll it latches. -/
theorem kernelRefusesTrimOutsideContract : Obligations.KernelRefusesTrimOutsideContract := by
  intro s htrim hout i hi
  have hok := (s.cfg.hTrimOk_eq_false_iff s.hTrim).2 ⟨htrim, hout⟩
  have hbegin : ∃ scroll, exec i s = kBegin scroll s := by
    simp only [List.mem_cons, List.not_mem_nil, or_false] at hi
    obtain rfl | rfl | rfl | rfl := hi <;> exact ⟨_, rfl⟩
  obtain ⟨scroll, hexec⟩ := hbegin
  exact hexec.trans (kBegin_refused scroll s hok)

end Sys2Proof.Machine
end

section
/-! # Proofs of the statements on the frame counter and the frame wait (spec/44_frame_ready_sync.md)

The frame counter and its strobe in one step, and the host's wait for display ends. The facts come first, in the order
of the definitions they speak of: what a step leaves of the counter and its strobe, one cycle of a host sequence, runs of
host operations, and how each part of the wait returns. -/

namespace Sys2Proof.Machine

/-! ## The display end of a step -/

theorem tick_keeps_eodQ {s t : State} (h : tick s = .next t) : t.eodQ = s.eodQ := by
  rw [tick_eq] at h
  split at h
  next =>
    obtain ⟨-, -, rfl⟩ | ⟨-, -, rfl⟩ | ⟨-, -, -, rfl⟩ | ⟨-, -, -, rfl⟩ := execLineInactive_next _ t h <;> rfl
  next =>
    obtain ⟨-, rfl⟩ := (kBegin_next_iff _ _ t).1 h
    rfl

section
variable {s t : State} (h0 : s.pins.rst = 0) (h : step s = .next t)
include h0 h

/-- The counter step, be it a tick or not, leaves the frame counter and `eod_q` to the line operation in progress. -/
theorem step_display_of_kernelCycle :
    t.frameCount = (kernelCycle s.popInput.clearStrobes).frameCount ∧
      t.eodQ = (kernelCycle s.popInput.clearStrobes).eodQ := by
  obtain ⟨-, -, host, rend, htick, rfl⟩ | ⟨-, host, rfl⟩ := step_tick_or_countOn h0 h
  · obtain ⟨hcount, -⟩ := tick_display htick
    have heod := tick_keeps_eodQ htick
    exact ⟨hcount, heod⟩
  · exact ⟨rfl, rfl⟩

/-- K.end of the last line, and nothing else, counts the frame (spec/44_frame_ready_sync.md R241). -/
theorem step_frameCount :
    t.frameCount =
      if s.rendering = true ∧ s.kEndDue = true ∧ s.atLastLine = true then s.frameCount + 1 else s.frameCount := by
  obtain ⟨hw, -⟩ := step_parts s t h0 h
  obtain ⟨hcount, -⟩ := step_display_of_kernelCycle h0 h
  exact hcount.trans (kernelCycle_frameCount (s := s.popInput.clearStrobes) hw)

/-- K.end of the last line, and nothing else, raises `eod_q` (spec/44_frame_ready_sync.md R240). -/
theorem step_eodQ_iff : t.eodQ = true ↔ s.rendering = true ∧ s.kEndDue = true ∧ s.atLastLine = true := by
  obtain ⟨hw, -⟩ := step_parts s t h0 h
  obtain ⟨-, -, hend⟩ := kernelCycle_completion (s := s.popInput.clearStrobes) hw
  obtain ⟨-, heod⟩ := step_display_of_kernelCycle h0 h
  have hfrom : t.eodQ = (s.rendering && s.kEndDue && s.atLastLine) := (heod.trans hend).trans (Bool.false_or _)
  rw [hfrom, Bool.and_eq_true, Bool.and_eq_true, and_assoc]

/-- The frame counter counts the cycles of `eod`. -/
theorem step_frameCount_of_eodOut : t.frameCount = s.frameCount + BitVec.ofNat 16 (if eodOut t then 1 else 0) := by
  rw [step_frameCount h0 h, eodOut_eq]
  simp only [← step_eodQ_iff h0 h]
  cases t.eodQ
  · exact (BitVec.add_zero _).symm
  · rfl

end

/-! ## One cycle of a host sequence -/

theorem hostCycle_inputs {i : Instr} {s t : State} (h : hostCycle i s = .next t) : t.inputs = s.inputs.tail :=
  step_inputs (s := s.issue i) h

theorem inputs_length_of_hostCycle {i : Instr} {s t : State} (h : hostCycle i s = .next t) :
    t.inputs.length = s.inputs.length - 1 := by
  rw [hostCycle_inputs h, List.length_tail]

/-- What holds of all inputs to come holds of them after a cycle in which the host issues an operation. -/
theorem forall_inputs_of_hostCycle {i : Instr} {s t : State} {P : Input → Prop} (hs : ∀ p ∈ s.inputs, P p)
    (h : hostCycle i s = .next t) : ∀ p ∈ t.inputs, P p := by
  rw [hostCycle_inputs h]
  exact fun p hp => hs p (List.mem_of_mem_tail hp)

/-- With no reset to come there is none in this cycle. -/
theorem State.pins_rst_eq_zero {s : State} (hs : ∀ p ∈ s.inputs, p.rst = 0) : s.pins.rst = 0 :=
  State.pins_of_take (P := fun p => p.rst = 0) (n := 0) (fun p hp => hs p (List.mem_of_mem_take hp)) rfl

/-- While `rst` is held for the cycles to come, it is 1 in this one. -/
theorem State.pins_rst_eq_one {s : State} (hs : ∀ p ∈ s.inputs, p.rst = 1) (hlen : 0 < s.inputs.length) :
    s.pins.rst = 1 := by
  obtain ⟨p, ps, hi⟩ := List.exists_cons_of_length_pos hlen
  have hp : s.pins = p := by rw [State.pins, hi, List.headD_cons]
  exact hp ▸ hs p (hi ▸ List.mem_cons_self)

theorem hostCycle_frameCount {i : Instr} {s t : State} (h0 : s.pins.rst = 0) (h : hostCycle i s = .next t) :
    t.frameCount = s.frameCount + BitVec.ofNat 16 (if eodOut t then 1 else 0) :=
  step_frameCount_of_eodOut (s := s.issue i) h0 h

/-- RD.FRAME_LO reads the counter as it stands at the start of its cycle (spec/43_display_config_ops.md R227). -/
theorem hostCycle_rdFrameLo_hRdata {s t : State} (h0 : s.pins.rst = 0) (h : hostCycle .rdFrameLo s = .next t) :
    t.hRdata = loByte s.frameCount := by
  have hword : decodeHb (hostWordOf .rdFrameLo) = .rdFrameLo := rfl
  obtain ⟨-, -, host, rend, hhost, rfl, -⟩ := step_parts (s.issue .rdFrameLo) t h0 h
  rw [State.issue_pins, hword] at hhost
  obtain rfl := Host.Outcome.next.inj hhost
  rfl

/-- A cycle with `rst` = 1 leaves no strobe and reads 0x00, whatever the host issues
(spec/70_reset_and_hazards.md R280). -/
theorem hostCycle_of_rst {i : Instr} {s t : State} (h1 : s.pins.rst = 1) (h : hostCycle i s = .next t) :
    t.irqQ = false ∧ t.hRdata = 0 := by
  obtain ⟨-, ⟨-, hreset⟩ | ⟨h0, -⟩⟩ := (step_next_iff (s.issue i) t).1 h
  · obtain rfl := Host.Outcome.next.inj hreset
    exact ⟨rfl, rfl⟩
  · exact absurd (h0.symm.trans h1) (by decide)

/-! ## Runs of host operations -/

theorem runHost_cons_next_iff {i : Instr} {is : List Instr} {s t : State} :
    runHost (i :: is) s = .next t ↔ ∃ u, hostCycle i s = .next u ∧ runHost is u = .next t := by
  rw [runHost]
  cases hostCycle i s <;> simp

theorem runHost_append {is js : List Instr} {s t : State} (h : runHost is s = .next t) :
    runHost (is ++ js) s = runHost js t := by
  induction is generalizing s with
  | nil =>
    obtain rfl := Host.Outcome.next.inj h
    rfl
  | cons i is ih =>
    obtain ⟨u, hcycle, hrest⟩ := runHost_cons_next_iff.1 h
    rw [List.cons_append, runHost_cons _ hcycle, ih hrest]

/-- Without reset, a run of host operations counts its display ends, and there is still no reset to come. -/
theorem runHost_frameCount {is : List Instr} {s t : State} (hs : ∀ p ∈ s.inputs, p.rst = 0)
    (h : runHost is s = .next t) :
    t.frameCount = s.frameCount + BitVec.ofNat 16 (displayEnds is s) ∧ ∀ p ∈ t.inputs, p.rst = 0 := by
  induction is generalizing s with
  | nil =>
    obtain rfl := Host.Outcome.next.inj h
    exact ⟨(BitVec.add_zero _).symm, hs⟩
  | cons i is ih =>
    obtain ⟨u, hcycle, hrest⟩ := runHost_cons_next_iff.1 h
    obtain ⟨hcount, hinputs⟩ := ih (forall_inputs_of_hostCycle hs hcycle) hrest
    refine ⟨?_, hinputs⟩
    rw [hcount, hostCycle_frameCount (State.pins_rst_eq_zero hs) hcycle, displayEnds_cons is hcycle, BitVec.ofNat_add,
      BitVec.add_assoc]

/-! ## How a wait returns -/

theorem wfi_succ_returned_iff {fuel : Nat} {s t : State} :
    wfi (fuel + 1) s = .returned t ↔
      ∃ u, hostCycle .nop s = .next u ∧ if lineIrqOut s then u = t else wfi fuel u = .returned t := by
  rw [wfi]
  cases hostCycle .nop s with
  | next u => cases lineIrqOut s <;> simp
  | fault f => exact nomatch f
  | refused r => simp

/-- One round of WAITEND: it returns with this poll, or waits for a strobe and polls again
(spec/44_frame_ready_sync.md R243). -/
theorem waitLoop_succ_returned_iff {bound fuel : Nat} {start n : Byte} {s t : State} :
    waitLoop bound start n (fuel + 1) s = .returned t ↔
      ∃ u, hostCycle .rdFrameLo s = .next u ∧
        if n.toNat ≤ (u.hRdata - start).toNat then u = t
        else ∃ v, wfi bound u = .returned v ∧ waitLoop bound start n fuel v = .returned t := by
  rw [waitLoop]
  cases hostCycle .rdFrameLo s with
  | next u =>
    simp only [Host.Outcome.next.injEq, exists_eq_left']
    split
    · simp
    · cases wfi bound u <;> simp
  | fault f => exact nomatch f
  | refused r => simp

theorem waitEnd_returned_iff {bound fuel : Nat} {n : Byte} {s t : State} :
    waitEnd bound fuel n s = .returned t ↔
      ∃ u, hostCycle .rdFrameLo s = .next u ∧ waitLoop bound u.hRdata n fuel u = .returned t := by
  rw [waitEnd]
  cases hostCycle .rdFrameLo s with
  | next u => simp
  | fault f => exact nomatch f
  | refused r => simp

/-- The cycles of a WFI that returns are NOPs (spec/30_encoding.md R108). -/
theorem runHost_of_wfi {fuel : Nat} {s t : State} (h : wfi fuel s = .returned t) :
    ∃ k, runHost (List.replicate k .nop) s = .next t := by
  induction fuel generalizing s with
  | zero => exact nomatch h
  | succ fuel ih =>
    obtain ⟨u, hcycle, hrest⟩ := wfi_succ_returned_iff.1 h
    split at hrest
    next =>
      subst hrest
      exact ⟨1, runHost_cons [] hcycle⟩
    next =>
      obtain ⟨k, hrun⟩ := ih hrest
      exact ⟨k + 1, (runHost_cons _ hcycle).trans hrun⟩

/-- The cycles of a loop that returns are polls and NOPs, and its last poll reads at least `n` past the start value. -/
theorem runHost_of_waitLoop {bound fuel : Nat} {start n : Byte} {s t : State}
    (h : waitLoop bound start n fuel s = .returned t) :
    ∃ ops u, (∀ i ∈ ops, i = .rdFrameLo ∨ i = .nop) ∧ runHost ops s = .next u ∧ hostCycle .rdFrameLo u = .next t ∧
      n.toNat ≤ (t.hRdata - start).toNat := by
  induction fuel generalizing s with
  | zero => exact nomatch h
  | succ fuel ih =>
    obtain ⟨u, hpoll, hrest⟩ := waitLoop_succ_returned_iff.1 h
    split at hrest
    next hn =>
      subst hrest
      exact ⟨[], s, by simp, rfl, hpoll, hn⟩
    next =>
      obtain ⟨v, hwfi, hloop⟩ := hrest
      obtain ⟨k, hnops⟩ := runHost_of_wfi hwfi
      obtain ⟨ops, w, hops, hrun, hlast, hn⟩ := ih hloop
      refine ⟨.rdFrameLo :: (List.replicate k .nop ++ ops), w, fun i hi => ?_, ?_, hlast, hn⟩
      · obtain rfl | hi := List.mem_cons.1 hi
        · exact .inl rfl
        obtain hi | hi := List.mem_append.1 hi
        · exact .inr (List.eq_of_mem_replicate hi)
        · exact hops i hi
      · rw [runHost_cons _ hpoll, runHost_append hnops, hrun]

/-- The low bytes of the counter before and after `k` increments are `k` apart, modulo 256. -/
theorem toNat_loByte_add_sub (w : BitVec 16) (k : Nat) :
    (loByte (w + BitVec.ofNat 16 k) - loByte w).toNat = k % 256 := by
  have hlow : ∀ v : BitVec 16, (loByte v).toNat = v.toNat % 256 := fun v => by simp [loByte]
  rw [BitVec.toNat_sub, hlow, hlow, BitVec.toNat_add, BitVec.toNat_ofNat]
  omega

/-! ## Waiting on a VSG held in reset -/

/-- Begun with no strobe, a WFI sees none while `rst` is held (spec/44_frame_ready_sync.md R249). -/
theorem wfi_not_returned_of_rst {bound : Nat} {s : State} (hs : ∀ p ∈ s.inputs, p.rst = 1) (hirq : s.irqQ = false)
    (hlen : bound ≤ s.inputs.length) (t : State) : wfi bound s ≠ .returned t := by
  induction bound generalizing s with
  | zero => exact Wait.noConfusion
  | succ bound ih =>
    intro h
    obtain ⟨u, hcycle, hrest⟩ := wfi_succ_returned_iff.1 h
    obtain ⟨huirq, -⟩ := hostCycle_of_rst (State.pins_rst_eq_one hs (by omega)) hcycle
    rw [if_neg (by simp [hirq])] at hrest
    refine ih (forall_inputs_of_hostCycle hs hcycle) huirq ?_ hrest
    rw [inputs_length_of_hostCycle hcycle]
    omega

/-- While `rst` is held a loop that started at 0x00 polls 0x00, and its first WFI never ends. -/
theorem waitLoop_not_returned_of_rst {bound fuel : Nat} {n : Byte} {s : State} (hs : ∀ p ∈ s.inputs, p.rst = 1)
    (hn : 1 ≤ n.toNat) (hlen : fuel * (bound + 1) ≤ s.inputs.length) (t : State) :
    waitLoop bound 0 n fuel s ≠ .returned t := by
  cases fuel with
  | zero => exact Wait.noConfusion
  | succ fuel =>
    intro h
    rw [Nat.succ_mul] at hlen
    obtain ⟨u, hpoll, hrest⟩ := waitLoop_succ_returned_iff.1 h
    obtain ⟨huirq, hudata⟩ := hostCycle_of_rst (State.pins_rst_eq_one hs (by omega)) hpoll
    have hshort : ¬ n.toNat ≤ (u.hRdata - 0).toNat := by
      rw [hudata]
      simp
      omega
    rw [if_neg hshort] at hrest
    obtain ⟨v, hwfi, -⟩ := hrest
    refine wfi_not_returned_of_rst (forall_inputs_of_hostCycle hs hpoll) huirq ?_ v hwfi
    rw [inputs_length_of_hostCycle hpoll]
    omega

/-! ## The statements -/

/-- Settles O31: the counter follows the line operation in progress, and only K.end of the last line counts. -/
theorem frameCounterStepsAtDisplayEnd : Obligations.FrameCounterStepsAtDisplayEnd := by
  intro s t h0 hstep
  rw [step_frameCount h0 hstep]
  simp only [State.kEndDue, State.atLastLine, decide_eq_true_iff]
  split
  · exact BitVec.toNat_add _ _
  · rfl

/-- Settles O53: the cycles of the wait are a run of host operations, whose display ends the counter counts; they are no
fewer than the distance of the low bytes, which is their number modulo 256. -/
theorem waitEndNeverReturnsEarly : Obligations.WaitEndNeverReturnsEarly := by
  intro bound fuel n s t hs h
  obtain ⟨v, hfirst, hloop⟩ := waitEnd_returned_iff.1 h
  obtain ⟨ops, u, hops, hrest, hlast, hn⟩ := runHost_of_waitLoop hloop
  have hrun : runHost (.rdFrameLo :: ops) s = .next u := (runHost_cons ops hfirst).trans hrest
  obtain ⟨hcount, hu⟩ := runHost_frameCount hs hrun
  have hread := hostCycle_rdFrameLo_hRdata (State.pins_rst_eq_zero hu) hlast
  rw [hread, hostCycle_rdFrameLo_hRdata (State.pins_rst_eq_zero hs) hfirst] at hn
  have hends : (loByte u.frameCount - loByte s.frameCount).toNat ≤ displayEnds (.rdFrameLo :: ops) s := by
    rw [hcount, toNat_loByte_add_sub]
    exact Nat.mod_le _ _
  exact ⟨ops, u, hops, hrun, hlast, hread, hn.trans hends, hn, hcount⟩

/-- Settles O59: the first RD of WAITEND is a cycle of the reset, so its loop starts at 0x00 and has no strobe to see. -/
theorem waitEndNeverReturnsInReset : Obligations.WaitEndNeverReturnsInReset := by
  intro bound fuel n s t hs
  refine ⟨fun hirq hlen => wfi_not_returned_of_rst hs hirq hlen t, fun hn hlen h => ?_⟩
  obtain ⟨u, hfirst, hloop⟩ := waitEnd_returned_iff.1 h
  obtain ⟨-, hudata⟩ := hostCycle_of_rst (State.pins_rst_eq_one hs (by omega)) hfirst
  rw [hudata] at hloop
  refine waitLoop_not_returned_of_rst (forall_inputs_of_hostCycle hs hfirst) hn ?_ t hloop
  rw [inputs_length_of_hostCycle hfirst]
  omega

end Sys2Proof.Machine
end

section
/-! # Proofs of the statements on events and exceptions (spec/60_exceptions.md)

The strobes, the separation of the two agents, and the completion of a cycle. The facts come first, in the order of the
definitions they speak of: the host's write of a memory, an operation of format HB on two states that agree on what the
host owns, the commit of the two halves, and the strobe of a tick. -/

namespace Sys2Proof.Machine

/-! ## What the host owns -/

/-- The host-programmable registers and the memories agree, whatever the renderer's registers hold
(spec/60_exceptions.md R264). -/
def SameHost (s t : State) : Prop := SameHostRegs s t ∧ t.screen = s.screen ∧ t.ramt = s.ramt

/-- What a write leaves of the memories depends on the configuration and on the memories alone. -/
theorem State.memWrite_memories_congr {s s' : State} (h : SameContents s s') (sp : Space) (a : Addr) (d : Byte) :
    (s'.memWrite sp a d).screen = (s.memWrite sp a d).screen ∧
      (s'.memWrite sp a d).ramt = (s.memWrite sp a d).ramt := by
  obtain ⟨hcfg, hscreen, hramt⟩ := h
  unfold State.memWrite
  rw [hcfg]
  split
  · cases sp with
    | screen => exact ⟨congrArg (Memory.write · a.toNat d) hscreen, hramt⟩
    | rom => exact ⟨hscreen, hramt⟩
    | ramt => exact ⟨hscreen, congrArg (Memory.write · a.toNat d) hramt⟩
  · exact ⟨hscreen, hramt⟩

/-- A write of a memory leaves what the host owns the same in two states that agree on it. -/
theorem SameHost.memWrite {s s' : State} (hcfg : s'.cfg = s.cfg) (h : SameHost s s') (sp : Space) (a : Addr)
    (d : Byte) : SameHost (s.memWrite sp a d) (s'.memWrite sp a d) := by
  obtain ⟨hregs, hmemories⟩ := h
  refine ⟨?_, State.memWrite_memories_congr ⟨hcfg, hmemories⟩ sp a d⟩
  rw [s.memWrite_eq, s'.memWrite_eq]
  exact hregs

/-- An operation of format HB computes what it writes from what the host owns: a register write from its register and
its data, a memory write from the memories, and a read, even one of the renderer's frame counter, writes `h_rdata`
only. -/
theorem SameHost.exec_hb {op : Instr} (hop : ∃ x, encode op = .hb x) {s s' t t' : State} (hcfg : s'.cfg = s.cfg)
    (h : SameHost s s') (ht : exec op s = .next t) (ht' : exec op s' = .next t') : SameHost t t' := by
  have ⟨⟨hfont, hramt, hscroll, vscroll, htrim, vtrim⟩, hmemories⟩ := h
  obtain ⟨x, hx⟩ := hop
  cases op with
  | reset | lineInactive | lineK6 | lineK8 | lineK8r | lineK8rs => exact nomatch hx
  | wrFontLo d | wrFontHi d | wrRamtLo d | wrRamtHi d | wrHScroll d | wrVScroll d | wrHTrim d | wrVTrim d =>
    obtain rfl := Host.Outcome.next.inj ht
    obtain rfl := Host.Outcome.next.inj ht'
    simp [SameHost, SameHostRegs, hfont, hramt, hscroll, vscroll, htrim, vtrim, hmemories]
  | wrs a d | wrt a d =>
    obtain rfl := Host.Outcome.next.inj ht
    obtain rfl := Host.Outcome.next.inj ht'
    exact h.memWrite hcfg _ a d
  | _ =>
    obtain rfl := Host.Outcome.next.inj ht
    obtain rfl := Host.Outcome.next.inj ht'
    exact h

/-! ## The commit -/

/-- What the renderer owns after a cycle does not depend on the host's half. -/
theorem sameRenderer_commit_commit (h1 h2 r : State) : SameRenderer (commit h1 r) (commit h2 r) :=
  sameRenderer_commit h2 (commit h1 r)

/-! ## The strobe of a tick -/

/-- A tick raises `irq_q` when it runs LINE.INACTIVE, which completes at once; K.begin leaves it
(spec/60_exceptions.md R256). -/
theorem tick_irqQ {s t : State} (h : tick s = .next t) : t.irqQ = (s.irqQ || decide (s.handler = .inactive)) := by
  rw [tick_eq] at h
  split at h
  next hh =>
    rw [decide_eq_true hh, Bool.or_true]
    obtain ⟨-, -, rfl⟩ | ⟨-, -, rfl⟩ | ⟨-, -, -, rfl⟩ | ⟨-, -, -, rfl⟩ := execLineInactive_next _ t h <;> rfl
  next hh =>
    rw [decide_eq_false hh, Bool.or_false]
    obtain ⟨-, rfl⟩ := (kBegin_next_iff _ _ t).1 h
    rfl

/-- LINE.INACTIVE and K.end, and nothing else, raise `irq_q` (spec/60_exceptions.md R256). -/
theorem step_irqQ_iff {s t : State} (h0 : s.pins.rst = 0) (h : step s = .next t) :
    t.irqQ = true ↔
      (s.hcount.toNat + 1 = s.cfg.hCycles ∧ s.handler = .inactive) ∨ (s.rendering = true ∧ s.kEndDue = true) := by
  obtain ⟨hw, -⟩ := step_parts s t h0 h
  obtain ⟨-, hend, -⟩ := countOn_completion hw
  obtain ⟨hlast, hhandler, host, rend, htick, rfl⟩ | ⟨hnot, host, rfl⟩ := step_tick_or_countOn h0 h
  · have hirq : rend.irqQ = (s.rendering && s.kEndDue || decide (s.handler = .inactive)) := by
      rw [tick_irqQ htick, hhandler]
      exact congrArg (· || _) hend
    rw [commit_irqQ, hirq, Bool.or_eq_true, Bool.and_eq_true, decide_eq_true_iff, or_comm]
    exact or_congr_left (iff_and_self.2 fun _ => hlast)
  · rw [commit_irqQ, hend, Bool.and_eq_true]
    exact (or_iff_right (hnot ·.1)).symm

/-! ## The statements -/

/-- Settles O32: RESET clears both strobes; without it they rise with the events of R256 and R257 only, and the outputs
are the strobes. -/
theorem strobesRiseOnCompletionOnly : Obligations.StrobesRiseOnCompletionOnly := by
  intro s t hstep
  refine ⟨fun h1 => ?_, fun h0 => ⟨?_, ?_⟩, lineIrqOut_eq t, eodOut_eq t⟩
  · obtain ⟨-, ⟨-, hreset⟩ | ⟨h0, -⟩⟩ := (step_next_iff s t).1 hstep
    · obtain rfl := Host.Outcome.next.inj hreset
      exact ⟨rfl, rfl⟩
    · exact absurd (h0.symm.trans h1) (by decide)
  · rw [step_irqQ_iff h0 hstep, State.kEndDue, decide_eq_true_iff]
  · rw [step_eodQ_iff h0 hstep, State.kEndDue, State.atLastLine, decide_eq_true_iff, decide_eq_true_iff]

/-- Settles O41: the renderer's half of both cycles starts from one state, and the commit takes the renderer's registers
from it alone. -/
theorem hostCannotDisturbRenderer : Obligations.HostCannotDisturbRenderer := by
  intro s t1 t2 w1 w2 ps hstep1 hstep2
  obtain ⟨-, -, host1, rend1, -, rfl, hrend1⟩ := step_parts _ t1 rfl hstep1
  obtain ⟨-, -, host2, rend2, -, rfl, hrend2⟩ := step_parts _ t2 rfl hstep2
  obtain rfl : rend1 = rend2 := Host.Outcome.next.inj (hrend1.symm.trans hrend2)
  exact sameRenderer_commit_commit host1 host2 rend1

/-- Settles O42: RESET gives the registers their reset values and keeps the memories; without it the commit takes both
from the host's half, which computes them from what the host owns. -/
theorem rendererCannotDisturbHost : Obligations.RendererCannotDisturbHost := by
  intro s s' t t' hcfg hpins hregs hscreen hramt hstep hstep'
  obtain ⟨-, ⟨h1, hreset⟩ | ⟨h0, host, rend, hhost, -, rfl⟩⟩ := (step_next_iff s t).1 hstep
  · obtain ⟨-, ⟨-, hreset'⟩ | ⟨h0', -⟩⟩ := (step_next_iff s' t').1 hstep'
    · obtain rfl := Host.Outcome.next.inj hreset
      obtain rfl := Host.Outcome.next.inj hreset'
      exact ⟨⟨rfl, rfl, rfl, rfl, rfl, rfl⟩, hscreen, hramt⟩
    · rw [hpins, h1] at h0'
      exact absurd h0' (by decide)
  · rw [← hpins] at h0
    obtain ⟨-, -, host', rend', hhost', rfl, -⟩ := step_parts s' t' h0 hstep'
    rw [hpins] at hhost'
    have hhalves : SameHost host host' := SameHost.exec_hb (s := s.popInput) (s' := s'.popInput)
      (encode_decodeHb s.pins.hb) hcfg ⟨hregs, hscreen, hramt⟩ hhost hhost'
    exact hhalves

/-- Settles O47: RESET and the host's half always answer, and no reason to refuse the renderer's half holds. -/
theorem everyCycleCompletesWithinContract : Obligations.EveryCycleCompletesWithinContract :=
  fun _ hinv hkept => hinv.exists_step hkept

end Sys2Proof.Machine
end

section
/-! # Proofs of the statements on reset and hazards (spec/70_reset_and_hazards.md)

RESET alone and in a step, the outputs around it, and the write that is read back in the next cycle. The facts come first,
in the order of the definitions they speak of: the operand forms, the word of a host operation, a cycle with that word on
the pins, a cycle with `rst` = 1, and the outputs. -/

namespace Sys2Proof.Machine

/-! ## The operand forms -/

theorem loByte_setLo (w : BitVec 16) (d : Byte) : loByte (setLo w d) = d :=
  BitVec.extractLsb'_append_eq_right

theorem hiByte_setHi (w : BitVec 16) (d : Byte) : hiByte (setHi w d) = d :=
  BitVec.extractLsb'_append_eq_left

/-- A scroll register keeps the low three bits of the written byte (spec/30_encoding.md R100). -/
theorem scrollByte_scrollOf (d : Byte) : scrollByte (scrollOf d) = d &&& 7 := by
  apply BitVec.eq_of_toNat_eq
  rw [toNat_scrollByte, toNat_scrollOf, BitVec.toNat_and]
  exact (Nat.and_two_pow_sub_one_eq_mod d.toNat 3).symm

/-! ## A cycle of one host operation -/

/-- The word that the host drives for an operation decodes to it. -/
theorem decodeHb_hostWordOf {i : Instr} (hi : i.wellFormed = true) (hop : ∃ x, encode i = .hb x) :
    decodeHb (hostWordOf i) = i := by
  obtain ⟨x, hx⟩ := hop
  have hround := decodeEncodeRoundTrip i hi
  rw [hx] at hround
  rw [hostWordOf, hx]
  exact Except.ok.inj hround

/-- With the word of an operation on the pins, the host's half of the cycle is that operation. -/
theorem step_hostPins {i : Instr} {ps : List Input} {s t : State} (hi : i.wellFormed = true)
    (hop : ∃ x, encode i = .hb x) (hinputs : s.inputs = hostPins i :: ps) (h : step s = .next t) :
    ∃ host rend, exec i s.popInput = .next host ∧ t = commit host rend := by
  have hpins : s.pins = hostPins i := by rw [State.pins, hinputs, List.headD_cons]
  obtain ⟨-, -, host, rend, hhost, ht, -⟩ := step_parts s t (congrArg Input.rst hpins) h
  rw [hpins, hostPins, decodeHb_hostWordOf hi hop] at hhost
  exact ⟨host, rend, hhost, ht⟩

/-- The byte that `read` shows when it finds the write set of `write` committed, beside anything that the renderer's half
`rend` may have committed with it. -/
def ReadsBack (write read : Instr) (b : Byte) : Prop :=
  ∀ s rend, ∃ host t, exec write s = .next host ∧ exec read (commit host rend).popInput = .next t ∧ t.hRdata = b

/-- What reads back through one commit reads back in the next cycle (spec/70_reset_and_hazards.md R285). -/
theorem ReadsBack.hRdata_eq {write read : Instr} {b : Byte} (h : ReadsBack write read b)
    (hwrite : write.wellFormed = true ∧ ∃ x, encode write = .hb x)
    (hread : read.wellFormed = true ∧ ∃ x, encode read = .hb x) {s t u : State}
    (hinputs : s.inputs = [hostPins write, hostPins read]) (ht : step s = .next t) (hu : step t = .next u) :
    u.hRdata = b := by
  have hinputs' : t.inputs = [hostPins read] := by rw [step_inputs ht, hinputs, List.tail_cons]
  obtain ⟨host, rend, hhost, rfl⟩ := step_hostPins hwrite.1 hwrite.2 hinputs ht
  obtain ⟨host', rend', hhost', rfl⟩ := step_hostPins hread.1 hread.2 hinputs' hu
  obtain ⟨_, _, hexec, hexec', hb⟩ := h s.popInput rend
  obtain rfl := Host.Outcome.next.inj (hexec.symm.trans hhost)
  obtain rfl := Host.Outcome.next.inj (hexec'.symm.trans hhost')
  exact hb

/-! ## A cycle with `rst` = 1 -/

/-- What RESET leaves behind when it has found the state `s` (spec/70_reset_and_hazards.md R280). -/
def IsResetOf (s t : State) : Prop := AtResetValues t ∧ SameMemory s t ∧ t.hRdata = 0 ∧ t.cfg = s.cfg

theorem exec_reset_isResetOf (s : State) : ∃ t, exec .reset s = .next t ∧ IsResetOf s t :=
  ⟨_, rfl, by simp [AtResetValues], fun _ => ⟨rfl, rfl⟩, rfl, rfl⟩

/-- A step with `rst` = 1 is RESET, which finds the state but for the pins taken off its inputs. -/
theorem step_isResetOf_of_rst {s : State} (hcfg : s.cfg.wellFormed = true) (hrst : s.pins.rst = 1) :
    ∃ t, step s = .next t ∧ IsResetOf s t := by
  rw [step_of_rst hcfg hrst]
  exact exec_reset_isResetOf s.popInput

/-! ## The outputs -/

/-- With every register at its reset value the counter is inside the `sync` pulse and no line is in progress. -/
theorem AtResetValues.outputs {t : State} (h : AtResetValues t) (hcfg : t.cfg.wellFormed = true) :
    t.hcount = 0 ∧ syncOut t = false ∧ videoOut t = false ∧ lineIrqOut t = false ∧ eodOut t = false := by
  obtain ⟨hhcount, -, -, -, hwidth, -, -, -, -, -, -, -, -, -, -, -, -, -, -, hrendering, -, -, hirq, heod⟩ := h
  obtain ⟨hpulse, -⟩ := t.cfg.widths_of_wellFormed hcfg
  refine ⟨hhcount, (syncOut_eq_false_iff t).2 ?_, videoOut_of_outside (.inl hrendering), hirq, heod⟩
  rw [hhcount, hwidth]
  exact hpulse

/-- The outputs are functions of the registers: the pins do not show in the cycle itself. -/
theorem outputs_withInputs (s : State) (ps : List Input) :
    syncOut (s.withInputs ps) = syncOut s ∧ videoOut (s.withInputs ps) = videoOut s ∧
      lineIrqOut (s.withInputs ps) = lineIrqOut s ∧ eodOut (s.withInputs ps) = eodOut s :=
  ⟨rfl, rfl, rfl, rfl⟩

/-! ## The statements -/

/-- Settles O40, pair by pair: the commit takes each written register from the host's half, and the read of the next cycle
finds it there. -/
theorem writtenValueReadsBackNextCycle : Obligations.WrittenValueReadsBackNextCycle := by
  intro s t u d p hp hinputs ht hu
  simp only [List.mem_cons, List.not_mem_nil, or_false] at hp
  have hformats : (p.1.wellFormed = true ∧ ∃ x, encode p.1 = .hb x) ∧
      p.2.1.wellFormed = true ∧ ∃ x, encode p.2.1 = .hb x := by
    obtain rfl | rfl | rfl | rfl | rfl | rfl | rfl | rfl := hp <;> exact ⟨⟨rfl, _, rfl⟩, rfl, _, rfl⟩
  have hback : ReadsBack p.1 p.2.1 p.2.2 := by
    obtain rfl | rfl | rfl | rfl | rfl | rfl | rfl | rfl := hp
    · exact fun s _ => ⟨_, _, rfl, rfl, loByte_setLo s.fontBase d⟩
    · exact fun s _ => ⟨_, _, rfl, rfl, hiByte_setHi s.fontBase d⟩
    · exact fun s _ => ⟨_, _, rfl, rfl, loByte_setLo s.ramtBase d⟩
    · exact fun s _ => ⟨_, _, rfl, rfl, hiByte_setHi s.ramtBase d⟩
    · exact fun _ _ => ⟨_, _, rfl, rfl, scrollByte_scrollOf d⟩
    · exact fun _ _ => ⟨_, _, rfl, rfl, scrollByte_scrollOf d⟩
    · exact fun _ _ => ⟨_, _, rfl, rfl, rfl⟩
    · exact fun _ _ => ⟨_, _, rfl, rfl, rfl⟩
  exact hback.hRdata_eq hformats.1 hformats.2 hinputs ht hu

/-- Settles O1: RESET writes the registers of R48 and takes over both memories. -/
theorem resetGivesResetValues : Obligations.ResetGivesResetValues :=
  exec_reset_isResetOf

/-- Settles O2: with `rst` = 1 the step is RESET, which looks at neither the word, the counter nor the line in
progress. -/
theorem resetPreemptsEverything : Obligations.ResetPreemptsEverything :=
  fun _ _ hcfg hpins => step_isResetOf_of_rst hcfg (congrArg Input.rst hpins)

/-- Settles O60: after the reset cycle the outputs are those of the reset values; in it they are those of the registers
from before. -/
theorem outputsDuringReset : Obligations.OutputsDuringReset := by
  intro s t hrst hstep
  obtain ⟨hcfg, -⟩ := (step_next_iff s t).1 hstep
  obtain ⟨_, hreset, hvalues, -, -, hsame⟩ := step_isResetOf_of_rst hcfg hrst
  obtain rfl := Host.Outcome.next.inj (hreset.symm.trans hstep)
  exact ⟨hvalues.outputs (hsame ▸ hcfg), lineIrqOut_eq s, eodOut_eq s, outputs_withInputs s⟩

end Sys2Proof.Machine
end
